-- ==== Sys2Proof/Word.lean ====
section
/-! DEFINITION. The plain words of the model: bytes of a frame, and the finite tables that hold the part's records.
Everything else that looks like a number in the spec (indices, line time, kilowatts) is a `Nat` or an `Int`: the spec
does its arithmetic on integers (R1), it never wraps. -/

namespace Sys2Proof

/-- One byte of a frame (Table 11-3). -/
abbrev Byte := BitVec 8

/-- A table of records by index: the entries that differ from the table's reset record, as (index, record) pairs.
The canonical form (indices strictly rising, no entry equal to the reset record) makes equal tables equal data.
Reading and writing are in `Machine/Tables.lean`. -/
abbrev Tab (α : Type) := List (Nat × α)

end Sys2Proof
end

