-- ==== Sys2Proof/Config.lean ====
section
/-! DEFINITION. The figures that are fixed for the part: the capacities of Table 0-5, the end of line time (3.1), the
saturation of the counters, and the reserved unit addresses (Table 0-3). The part's own spec leaves no value
undefined, so no free value stands here (NOTES.md, '## Assumptions'). -/

namespace Sys2Proof.Config

/-- The last value of line time, in eighths (3.1, R158). -/
abbrev maxTime : Nat := 1048575
/-- What the model stores for an instant that is set while line time already stands at 1,048,575: the instant itself is
1,048,575 (3.1), no step comes to it any more, and START OPERATION is the only event that reaches it (R158).
DEDUCED (log entry 4). -/
abbrev unreached : Nat := maxTime + 1
/-- Counters saturate here (Table 0-5, R187). -/
abbrev counterMax : Nat := 65535
/-- Frames in a port's inbound FIFO (R182). -/
abbrev fifoCap : Nat := 32
/-- Frames in a port's urgent queue (R183). -/
abbrev urgentCap : Nat := 16
/-- Frames in a port's normal queue (R183). -/
abbrev normalCap : Nat := 48
/-- Train slots (R2). -/
abbrev slots : Nat := 48
/-- Platforms (R17), zones (R137), feeders (R51) and incident entries (R91) are 64 each. -/
abbrev platforms : Nat := 64
/-- Announcement zones (R137). -/
abbrev zones : Nat := 64
/-- Feeders (R51). -/
abbrev feeders : Nat := 64
/-- Incident entries (R91). -/
abbrev entries : Nat := 64
/-- Traction sections (R52). -/
abbrev sections : Nat := 40
/-- Stations (R123). -/
abbrev stations : Nat := 40
/-- Substations (3.3). -/
abbrev substations : Nat := 16
/-- Templates (R124). -/
abbrev templates : Nat := 128
/-- Incident kinds (R88). -/
abbrev kinds : Nat := 32
/-- Console entries (R168). -/
abbrev consoles : Nat := 8
/-- Call-record slots of a ring (R18). -/
abbrev ringCap : Nat := 32
/-- Outcomes in the batch buffer (R48). -/
abbrev outcomeCap : Nat := 24
/-- Entries of a zone queue (R138). -/
abbrev zoneCap : Nat := 8
/-- Phrase codes of a composition buffer (R132). -/
abbrev bufferCap : Nat := 48
/-- Longest payload of a frame (R181). -/
abbrev payloadCap : Nat := 56
/-- The switching limit of every section, in eighths (R52). -/
abbrev switchingLimit : Nat := 80
/-- 'All consoles', the destination of notices (Table 0-3). -/
abbrev allConsoles : Nat := 4094
/-- The part itself, the destination of requests (Table 0-3). -/
abbrev self : Nat := 4095

/-- The strap pins of `State.reset`: 3504, the strapping of the spec's own bring-up sequence (12.5).
DESIGN CHOICE (log entry 2): the pins are an input, not a reset value. -/
abbrev resetStraps : BitVec 12 := 3504#12

end Sys2Proof.Config
end

