-- ==== Sys2Proof/Syntax.lean ====
section
/-! DEFINITION. The commands of the part: one constructor for each row of spec/opcode_table.json, 'the part's steps,
each whole and indivisible' (spec/95_what_each_step_holds.md).

Which operands a command has. A telegram reaches the part as bytes on a link (`frameReceived`) and waits in the port's
inbound FIFO; a row that takes a telegram takes the frame at the FRONT of that FIFO (R182), so it has no operand of its
own: its operands are the fields of that frame, read by `Machine/Operands.lean`. A row for an instant of one item (a slot,
a section, a zone ...) names the item. See log entry 1. -/

namespace Sys2Proof

/-- The two ports (chapter 11). -/
inductive Port where
  | field
  | console
  deriving DecidableEq, Repr

/-- The two outbound queues of a port (R183). -/
inductive Lane where
  | urgent
  | normal
  deriving DecidableEq, Repr

/-- The part's steps, in the order of the table. -/
inductive Instr where
  /-- RESET_ASSERTED (R200): Asserting the reset input holds every block in its reset state, stops the ports and cuts short any frame in transmission. -/
  | resetAsserted
  /-- RESET_RELEASED (R200): Releasing reset samples the strap pins into console entry 0, sets every item to its reset value and starts the part in CONFIGURING. -/
  | resetReleased (straps : BitVec 12)
  /-- LINE_TIME_STEP (R158): While RUNNING, a reference eighth adds one eighth to line time, or makes no step during a negative slew correction or at the maximum. -/
  | lineTimeStep
  /-- SLEW_CORRECTION (R160): After each 64 ordinary steps with a slew remainder, one extra step is made or one reference eighth is withheld, and the remainder moves one eighth towards 0. -/
  | slewCorrection
  /-- DISPLAY_CYCLE (R24): A step that brings line time to a multiple of 64 eighths lapses overdue ring heads and recomputes every loaded display cell. -/
  | displayCycle
  /-- LINE_TIME_PUBLICATION (R161): A step that reaches a multiple of 8 times the LINE TIME interval makes a LINE TIME telegram on the field normal queue, or leaves it waiting. -/
  | lineTimePublication
  /-- FRAME_RECEIVED (R181): A delimited run of bytes arriving on a link is checked for framing and CRC and, when valid, clears the link-down flag and is offered to the inbound FIFO. -/
  | frameReceived (port : Port) (run : List Byte)
  /-- LINK_DOWN (R186): After 1 s without an incoming signal the port sets its link-down flag, counts the event and flushes both outbound queues. -/
  | linkDown (port : Port)
  /-- FRAME_TRANSMISSION (R183): A free transmitter takes the front frame of the urgent queue, else of the normal queue, and sends it whole, freeing a place in that queue. -/
  | frameTransmission (port : Port)
  /-- QUEUE_ROOM (R185): A free place in an outbound queue is given to the block at the front of the room list, which queues one waiting frame and rejoins the list if it still holds frames for that queue. -/
  | queueRoom (port : Port) (lane : Lane)
  /-- FIELD_FRAME (R170): A field frame from the inbound FIFO that no owner acts on is dropped as an unknown source, or refreshes its source and is forwarded or counted as a role mismatch. -/
  | fieldFrame
  /-- ARRIVED (R7): A train's ARRIVED at a platform closes any earlier stay, matches the ring, puts the slot in DWELLING, sets its lateness, recomputes the cell and consumes the armed announcement. -/
  | arrived
  /-- DOORS_CLOSED (R11): DOORS CLOSED from DWELLING or HELD computes the hold and release instant, sends HOLD ADVICE, and goes to HELD or on to admission. -/
  | doorsClosed
  /-- DEPARTED (R12): DEPARTED at the current platform departs the ACTIVE call with its lateness and flags, removes any queue entry, and puts the slot in RUNNING. -/
  | departed
  /-- POSITION (R6): POSITION records the train's current section, sets its no-traction flag, and moves an UNPLACED slot to RUNNING. -/
  | position
  /-- START_REQUEST (R13): START REQUEST from a train between stations gives up any old reservation and asks for a start, leading to PERMITTED or WAITING POWER. -/
  | startRequest
  /-- FEEDER_REPORT (R53): A substation's report updates feeder readings, medians and breakers, then recomputes M, derives state, evaluates overload and re-evaluates each section concerned. -/
  | feederReport
  /-- FRAME_DONE (R144): A matching FRAME DONE ends the outstanding frame and sends the next frame, ends a play, or preempts at the boundary. -/
  | frameDone
  /-- PA_BUSY (R146): A matching PA BUSY puts the zone in a 32-eighth gap before resending, or fails the entry at its third busy. -/
  | paBusy
  /-- PA_FAULT (R151): PA FAULT from a zone's unit puts the zone, or all of the unit's zones, in FAULT, suspending the playing entry and raising kind 6. -/
  | paFault
  /-- PA_READY (R151): PA READY takes a zone out of FAULT to IDLE, self-clears kind 6 and selects the next entry. -/
  | paReady
  /-- HELP_CALL (R173): A HELP CALL from a station unit raises kind 5 at that station, or merges into an open one. -/
  | helpCall
  /-- RELEASE_INSTANT (R34): Line time reaching a HELD slot's release instant sends it to INCIDENT HOLD or makes its start request. -/
  | releaseInstant (slot : Nat)
  /-- RESERVATION_EXPIRY (R83): Line time reaching a reservation's expiry frees the entry, lowers R and re-evaluates the section. -/
  | reservationExpiry (slot : Nat)
  /-- SWITCHING_DEADLINE (R62): In ISOLATING or ENERGISING, the deadline resends the order to unswitched feeders, or at the third attempt moves the section to FAULT and raises kind 8. -/
  | switchingDeadline (sect : Nat)
  /-- ACKNOWLEDGEMENT_DEADLINE (R102): An unacknowledged incident reaching its deadline is escalated one severity, its deadline is renewed, and an ESCALATED notice is made due. -/
  | acknowledgementDeadline (entry : Nat)
  /-- FRAME_DEADLINE (R145): An unanswered PA frame is resent, or at the third expiry in a row its entry fails and the zone goes to FAULT. -/
  | frameDeadline (zone : Nat)
  /-- GAP_END (R147): At the end of a busy or repetition gap, the zone returns to SENDING and sends its frame again. -/
  | gapEnd (zone : Nat)
  /-- LOCK_AGE_RELEASE (R152): A console zone lock held 900 s is released with ZONE NOTICE UNLOCKED, cause AGE. -/
  | lockAgeRelease (zone : Nat)
  /-- SILENCE_EXPIRY (R163): A supervised unit unheard past its silence limit is handed to its owner as silent: a train goes LOST, a substation's feeders go stale, a PA unit's zones go to FAULT. -/
  | silenceExpiry (addr : Nat)
  /-- DISPLAY_UPDATE (R47): A pending display cell is sent as DISPLAY UPDATE once 16 eighths have passed since its last send and the queue has room. -/
  | displayUpdate (platform : Nat)
  /-- CALL_OUTCOMES (R49): A CALL OUTCOMES telegram is formed from the batch buffer when three outcomes wait, or when the oldest has waited 16 eighths. -/
  | callOutcomes
  /-- CONSOLE_FRAME (R175): A console frame whose source matches no console-table entry is dropped and counted as an unknown source. -/
  | consoleFrame
  /-- PASS_THROUGH (R176): A console telegram of another kind bound for a field unit is checked for destination, kind and privilege, then queued on the field port or refused. -/
  | passThrough
  /-- CONSOLE_DEPART_PERMIT (R178): A console DEPART PERMIT is refused at a held platform unless its sender holds SUPERVISOR, and when passed it sets the slot's console-permit flag. -/
  | consoleDepartPermit
  /-- CONSOLE_ENERGISE_ORDER (R177): A console ENERGISE ORDER is refused with INTERLOCKED when the feeder's section or the named section is interlocked, and passed otherwise. -/
  | consoleEnergiseOrder
  /-- CONSOLE_PA_FRAME (R179): A console PA FRAME is referred to the composer's lock check and passed or refused. -/
  | consolePaFrame
  /-- CONSOLE_PA_ABORT (R179): A console PA ABORT is referred to the composer's lock check and passed or refused. -/
  | consolePaAbort
  /-- UNKNOWN_REQUEST (R190): A request of an unknown kind is answered with BAD ARGUMENT. -/
  | unknownRequest
  /-- STATUS (R196): STATUS returns the operating state, flags, line time, slew remainder and counters, and clears the counters it reports. -/
  | status
  /-- QUERY (R197): QUERY assembles the named record afresh and returns one 48-byte part of it. -/
  | query
  /-- START_OPERATION (R198): START OPERATION, once the clock is set, moves the part to RUNNING, restarts the silence timers, retakes incident locks and sends pending display cells. -/
  | startOperation
  /-- STOP_OPERATION (R199): STOP OPERATION returns the part to CONFIGURING, and each block tears down its running service. -/
  | stopOperation
  /-- SET_CLOCK (R159): SET CLOCK sets line time, clears the slew, sets the clock-set flag and rebases the kept display, outcome and acknowledgement instants. -/
  | setClock
  /-- SLEW_CLOCK (R160): SLEW CLOCK replaces the slew remainder with an offset of −64..+64 eighths and restarts the slew phase. -/
  | slewClock
  /-- LOAD_CONSOLE (R169): LOAD CONSOLE sets or empties one console-table entry, keeping at least one SUPERVISOR entry. -/
  | loadConsole
  /-- LOAD_UNIT (R167): LOAD UNIT sets the role, index, policy and silence class of a unit-map entry. -/
  | loadUnit
  /-- LOAD_STATION (R123): LOAD STATION loads a station's name code. -/
  | loadStation
  /-- LOAD_PLATFORM (R194): LOAD PLATFORM loads a platform record and recomputes its display cell. -/
  | loadPlatform
  /-- LOAD_SECTION (R52): LOAD SECTION loads a section's cap and start window and sets the section to UNKNOWN. -/
  | loadSection
  /-- LOAD_FEEDER (R51): LOAD FEEDER places a feeder of a substation on a section, resets its readings and recomputes M. -/
  | loadFeeder
  /-- LOAD_CLASSES (R195): LOAD CLASSES sets the four class demands, the four silence classes and the LINE TIME interval. -/
  | loadClasses
  /-- LOAD_KIND (R90): LOAD KIND replaces a kind entry, with its effect and clearance templates, for later raises. -/
  | loadKind
  /-- LOAD_TEMPLATE (R124): LOAD TEMPLATE replaces a template's element list for later compositions. -/
  | loadTemplate
  /-- LOAD_ZONE (R137): LOAD ZONE loads a zone's PA unit, station and platform, and resets the zone to IDLE with an empty queue. -/
  | loadZone
  /-- BIND_TRAIN (R3): BIND TRAIN binds a unit address, trip and demand class to a FREE slot, which goes to UNPLACED. -/
  | bindTrain
  /-- RELEASE_TRAIN (R4): RELEASE TRAIN frees a slot, removes its pool entry and returns its address to UNUSED. -/
  | releaseTrain
  /-- APPEND_CALLS (R19): APPEND CALLS adds 1 to 4 call records to a platform ring, whole or not at all, in S order. -/
  | appendCalls
  /-- CANCEL_CALL (R20): CANCEL CALL cancels the first PENDING record of a trip, or is refused when that record is ACTIVE. -/
  | cancelCall
  /-- SET_PLATFORM_MODE (R195): SET PLATFORM MODE replaces a platform's loaded mode for its next hold computation. -/
  | setPlatformMode
  /-- RAISE_INCIDENT (R96): RAISE INCIDENT from a console raises an incident of kind 9–31, with optional severity and effect templates. -/
  | raiseIncident
  /-- ACK_INCIDENT (R101): ACK INCIDENT acknowledges an ACTIVE-UNACK incident, or frees a CLEARED-UNACK one. -/
  | ackIncident
  /-- CLEAR_INCIDENT (R104): CLEAR INCIDENT, with the kind's clear privilege or SUPERVISOR, clears an ACTIVE incident. -/
  | clearIncident
  /-- ISOLATE_SECTION (R68): ISOLATE SECTION takes an isolation request on a loaded section. -/
  | isolateSection
  /-- ENERGISE_SECTION (R69): ENERGISE SECTION moves a section that is not interlocked and not switching to ENERGISING. -/
  | energiseSection
  /-- ANNOUNCE (R141): ANNOUNCE offers a console entry to each listed zone, each zone answering QUEUED, MERGED or BUSY. -/
  | announce
  /-- ARM_ANNOUNCEMENT (R134): ARM ANNOUNCEMENT replaces a platform's armed template, class and repeating flag, or disarms it. -/
  | armAnnouncement
  /-- LOCK_ZONE (R152): LOCK ZONE locks a zone to the console, renews its own lock, or takes another holder's lock with SUPERVISOR. -/
  | lockZone
  /-- UNLOCK_ZONE (R152): UNLOCK ZONE releases a zone lock held by the console, or by another holder with SUPERVISOR. -/
  | unlockZone
  deriving DecidableEq, Repr

end Sys2Proof
end

