-- ==== Sys2Proof/Decode.lean ====
section
/-! DEFINITION. The commands that a word spells by the table's bits. No row of spec/opcode_table.json gives bits (the
part has no instruction words: its commands are telegrams, pins and instants), so no word spells a command. The byte
layouts of the telegrams (R188, R189) are read in `Machine/Frames.lean` and `Machine/Operands.lean`. -/

namespace Sys2Proof

/-- No row of the table gives bits, so every word is refused. -/
def decodeTableWord (_nbits _w : Nat) : Option Instr := none

end Sys2Proof
end

