-- ==== Sys2Proof/Machine/State.lean ====
section
/-! DEFINITION. The state of the part, block by block as Table 0-2 divides it, and the state after reset.
Every table is a list of the entries that differ from their reset record (`Tab`); the default values of a record's
fields below ARE the reset values the spec's tables give. Fields that are the model's own say so. -/

namespace Sys2Proof.Machine

/-- Why a command stops the machine. Every one of them is SAFE: the command names an item that the spec's index ranges
(Tables 0-3 and 0-4) say does not exist, so no event of the part is lost. -/
inductive Fault where
  /-- Raised by a command that names a train slot outside 0–47 (Table 0-4). Safe. -/
  | noSuchSlot (slot : Nat)
  /-- Raised by a command that names a traction section outside 0–39 (Table 0-4). Safe. -/
  | noSuchSection (sect : Nat)
  /-- Raised by a command that names an incident entry outside 0–63 (Table 0-4). Safe. -/
  | noSuchEntry (entry : Nat)
  /-- Raised by a command that names a zone outside 0–63 (Table 0-4). Safe. -/
  | noSuchZone (zone : Nat)
  /-- Raised by a command that names a platform outside 0–63 (Table 0-4). Safe. -/
  | noSuchPlatform (platform : Nat)
  /-- Raised by a command that names a unit address above 4095 (Table 0-3). Safe. -/
  | noSuchAddress (addr : Nat)
  deriving DecidableEq, Repr

/-- Why a command has no meaning. -/
inductive Refusal where
  /-- Raised by an arm of `exec` whose command has no meaning yet. Safe. No arm raises it now. -/
  | notModelled (mnemonic : String)
  deriving DecidableEq, Repr

/-! ## Frames and ports (chapter 11) -/

/-- One telegram: destination, source, kind and payload (Table 11-3). The CRC is checked at reception and computed at
transmission (R181), so it is not stored. -/
structure Frame where
  dst : Nat
  src : Nat
  kind : Nat
  payload : List Byte
  deriving DecidableEq, Repr

/-- The blocks that join room lists (R185). -/
inductive Block where
  | regulator | powerUnit | incidentUnit | composer | timingUnit | requestHandler
  deriving DecidableEq, Repr

/-- One port: inbound FIFO (R182), two outbound queues (R183), their room lists (R185), the link-down flag (R186) and the
five counters (R187). -/
structure PortState where
  fifo : List Frame := []
  urgent : List Frame := []
  normal : List Frame := []
  urgentRoom : List Block := []
  normalRoom : List Block := []
  /-- The frame the transmitter took last (R183). No row marks the end of a transmission (log entry 7). -/
  transmitting : Option Frame := none
  linkDown : Bool := false
  crcErrors : Nat := 0
  framingErrors : Nat := 0
  inboundOverflows : Nat := 0
  outboundDiscards : Nat := 0
  linkDownEvents : Nat := 0
  deriving DecidableEq, Repr

/-- A frame that waits with its holder for room (R184), and the event at which it began to wait (the model's own stamp,
for the order of R185). -/
structure Waiting where
  frame : Frame
  since : Nat
  deriving DecidableEq, Repr

/-! ## Classifier (chapter 10) -/

/-- Roles, in the order of Table 10-1. -/
inductive Role where
  | unused | train | substation | paUnit | display | station
  deriving DecidableEq, Repr

/-- Forwarding policies, in the order of Table 10-1. -/
inductive Policy where
  | pass | act | both | drop
  deriving DecidableEq, Repr

/-- A unit-map entry (Table 10-1). -/
structure UnitEntry where
  role : Role := .unused
  index : Nat := 0
  policy : Policy := .act
  silence : Option Nat := none
  deriving DecidableEq, Repr

/-- The four privileges (R168). -/
inductive Priv where
  | view | dispatch | power | supervisor
  deriving DecidableEq, Repr

/-- A privilege set (R168). -/
structure PrivSet where
  view : Bool
  dispatch : Bool
  power : Bool
  supervisor : Bool
  deriving DecidableEq, Repr

/-- A console-table entry that is not empty (R168). -/
structure ConsoleEntry where
  addr : Nat
  privs : PrivSet
  deriving DecidableEq, Repr

structure Classifier where
  units : Tab UnitEntry := []
  consoles : Tab (Option ConsoleEntry) := []
  unknownSource : Nat := 0
  roleMismatch : Nat := 0
  deriving DecidableEq, Repr

/-! ## Timing unit (chapter 9) -/

/-- A supervision record (R162). For an address bound to a train slot the last-heard instant is the slot's. -/
structure Supervision where
  lastHeard : Nat := 0
  silent : Bool := false
  deriving DecidableEq, Repr

structure Timing where
  lineTime : Nat := 0
  clockSet : Bool := false
  slew : Int := 0
  phase : Nat := 0
  interval : Nat := 0
  silence0 : Nat := 8
  silence1 : Nat := 16
  silence2 : Nat := 32
  silence3 : Nat := 64
  supervision : Tab Supervision := []
  waiting : Bool := false
  /-- The model's own: the silence classes that the last step tested with (R162, R163); before any step, the reset values. -/
  tested : Nat × Nat × Nat × Nat := (8, 16, 32, 64)
  /-- The model's own: the phase has reached 64 and the correction of R160 is not yet taken. -/
  correctionDue : Bool := false
  /-- The model's own: a negative correction is taken and the reference eighth it withholds has not come yet (R160). -/
  withhold : Bool := false
  /-- The model's own: a step has reached a multiple of 64 whose display cycle (R24) is not yet taken. -/
  displayDue : Bool := false
  /-- The model's own: a step has reached a publication multiple (R161) that is not yet taken. -/
  publishDue : Bool := false
  deriving DecidableEq, Repr

/-! ## Service regulator (chapters 1 and 2) -/

/-- Train states, in the order of Table 1-2. -/
inductive TrainState where
  | free | unplaced | running | dwelling | held | incidentHold | waitingPower | permitted | lost
  deriving DecidableEq, Repr

/-- The stay record of an unscheduled stay (R25). -/
structure Stay where
  arrival : Nat
  hold : Nat := 0
  wait : Nat := 0
  reducedStart : Bool := false
  incidentHeld : Bool := false
  deriving DecidableEq, Repr

/-- A train slot (Table 1-1), with its stay record (R25), its waiting HOLD ADVICE (R32) and its waiting permit or grant
(R38). -/
structure Slot where
  addr : Option Nat := none
  trip : Nat := 0
  cls : Nat := 0
  st : TrainState := .free
  platform : Option Nat := none
  sect : Option Nat := none
  lateness : Option Int := none
  lastHeard : Nat := 0
  release : Option Nat := none
  relBase : Option Nat := none
  consolePermit : Bool := false
  noTraction : Bool := false
  stay : Option Stay := none
  advice : Option Waiting := none
  permit : Option Waiting := none
  deriving DecidableEq, Repr

/-- Reasons of a TRAIN NOTICE (R14, R15). -/
inductive TrainReason where
  | lost | recovered
  deriving DecidableEq, Repr

/-- A TRAIN NOTICE held in a slot's notice slot (R14). -/
structure TrainNotice where
  addr : Option Nat
  trip : Nat
  st : TrainState
  platform : Option Nat
  sect : Option Nat
  noTraction : Bool
  reason : TrainReason
  count : Nat
  deriving DecidableEq, Repr

/-- Dispositions, in the order of Table 1-5. -/
inductive Disposition where
  | pending | active | departed | skipped | cancelled | lapsed
  deriving DecidableEq, Repr

/-- The flags of a call record (Table 1-5) and of an outcome (Table 11-8). -/
structure CallFlags where
  noPermit : Bool := false
  consolePermit : Bool := false
  noDoorsClosed : Bool := false
  departureUnseen : Bool := false
  reducedStart : Bool := false
  incidentHeld : Bool := false
  deriving DecidableEq, Repr

/-- A call record (Table 1-5). -/
structure CallRecord where
  trip : Nat
  dest : Nat
  schedArr : Nat
  schedDep : Nat
  dmin : Nat
  disp : Disposition := .pending
  slot : Option Nat := none
  arrival : Option Nat := none
  departure : Option Nat := none
  lateness : Option Int := none
  hold : Nat := 0
  wait : Nat := 0
  flags : CallFlags := {}
  deriving DecidableEq, Repr

/-- Regulation modes (Table 1-4). -/
inductive Mode where
  | off | timetable | headway
  deriving DecidableEq, Repr

/-- One line of a display cell: destination station and countdown (R45). -/
structure CellLine where
  dest : Nat
  countdown : Nat
  deriving DecidableEq, Repr

/-- A platform: its record (Table 1-4), its running state (R17), its display cell (R45) and its ring (R18).
The engine-owned slots run from `head` for `ring.length` places, wrapping at 32; the other slots are the loader's. -/
structure Platform where
  loaded : Bool := false
  station : Nat := 0
  display : Nat := 0
  sect : Nat := 0
  zones : List Nat := []
  displayAddr : Nat := 0
  mode : Mode := .off
  hmax : Nat := 0
  early : Nat := 0
  lateLimit : Nat := 0
  lapse : Nat := 0
  /-- P, the actual departure of the last served call. -/
  lastDep : Option Nat := none
  /-- Sprev, the scheduled departure of the last served call. -/
  lastSched : Option Nat := none
  /-- The reference to the ACTIVE call: its ring position. -/
  active : Option Nat := none
  cellNow : List CellLine := []
  cellSent : List CellLine := []
  lastSend : Nat := 0
  cellPending : Bool := false
  /-- The model's own: the event at which the pending cell began to wait for room only (R185). -/
  cellSince : Option Nat := none
  head : Nat := 0
  ring : List CallRecord := []
  deriving DecidableEq, Repr

/-- An outcome in the batch buffer (R22, R23, R48). `trip = none` marks an unscheduled outcome. -/
structure Outcome where
  platform : Nat
  trip : Option Nat
  disp : Disposition
  schedArr : Option Nat
  schedDep : Option Nat
  slot : Option Nat
  arrival : Option Nat
  departure : Option Nat
  lateness : Option Int
  hold : Nat
  wait : Nat
  flags : CallFlags
  entered : Nat
  deriving DecidableEq, Repr

structure Regulator where
  trains : Tab Slot := []
  notices : Tab (Option TrainNotice) := []
  platforms : Tab Platform := []
  outcomes : List Outcome := []
  outcomeLoss : Nat := 0
  deriving DecidableEq, Repr

/-! ## Power admission unit (chapters 3 and 4) -/

/-- Breaker states (Table 3-1). -/
inductive Breaker where
  | opened | closed | unknown
  deriving DecidableEq, Repr

/-- The two breaker orders (R67). -/
inductive OrderKind where
  | isolate | energise
  deriving DecidableEq, Repr

/-- A waiting order of a feeder (R67). -/
structure WaitingOrder where
  kind : OrderKind
  frame : Frame
  since : Nat
  deriving DecidableEq, Repr

/-- A feeder entry (Table 3-1). The sample count is the length of the history. -/
structure Feeder where
  loaded : Bool := false
  substation : Nat := 0
  number : Nat := 0
  sect : Nat := 0
  history : List Int := []
  median : Int := 0
  breaker : Breaker := .unknown
  stale : Bool := false
  waiting : Option WaitingOrder := none
  deriving DecidableEq, Repr

/-- Section states, in the order of Table 3-2. -/
inductive SectState where
  | unknown | energised | isolating | isolated | energising | tripped | fault
  deriving DecidableEq, Repr

/-- Section notice causes, in the order of Table 3-6. -/
inductive SectCause where
  | report | protection | uncommanded | switched | reclose | ordered | interlock | switchingFailure
  | measurementLost | measurementRestored | stopped
  deriving DecidableEq, Repr

/-- A pending SECTION NOTICE (R72): the state before the first unsent change, the newest state and cause, and the change
count. The figures are those of the moment it is queued. -/
structure SectNotice where
  before : SectState
  after : SectState
  cause : SectCause
  count : Nat
  deriving DecidableEq, Repr

/-- A section entry (Table 3-2), with its effective cap as the power unit last recomputed it (R77), its start queue and
its reservation sum R (R75). -/
structure Sect where
  loaded : Bool := false
  cap : Nat := 0
  window : Nat := 4
  st : SectState := .unknown
  attempts : Nat := 0
  deadline : Option Nat := none
  overCount : Nat := 0
  underCount : Nat := 0
  m : Int := 0
  measLost : Bool := false
  notice : Option SectNotice := none
  ceff : Nat := 0
  queue : List Nat := []
  reserved : Nat := 0
  deriving DecidableEq, Repr

/-- A start-pool entry (Table 4-1). -/
inductive PoolEntry where
  | free
  | queued (sect demand instant : Nat) (rel : Option Nat)
  | reservation (sect instant amount expiry : Nat) (reduced : Bool)
  deriving DecidableEq, Repr

structure Power where
  feeders : Tab Feeder := []
  sections : Tab Sect := []
  pool : Tab PoolEntry := []
  demand0 : Nat := 0
  demand1 : Nat := 0
  demand2 : Nat := 0
  demand3 : Nat := 0
  deriving DecidableEq, Repr

/-! ## Incident unit (chapters 5 and 6) -/

/-- Location types, in the order of Table 5-3. -/
inductive LocType where
  | train | sect | platform | station | substation | zone | line
  deriving DecidableEq, Repr

/-- A location: a type and an index (Table 5-3). -/
structure Location where
  typ : LocType
  idx : Nat
  deriving DecidableEq, Repr

/-- Effect types with their parameters (R89), in the order of R89's table. -/
inductive EffectType where
  | isolate
  | cap (fraction : Nat)
  | hold
  | headway
  | announce (template cls repeats : Nat) (lock : Bool)
  deriving DecidableEq, Repr

/-- Target selectors (R89), in R89's order. -/
inductive Selector where
  | locationSection
  | locationPlatforms
  | locationZones
  | explicit (first last : Nat)
  deriving DecidableEq, Repr

/-- An effect template (R89). -/
structure EffectTemplate where
  typ : EffectType
  sel : Selector
  deriving DecidableEq, Repr

/-- An effect record: type with parameter, and 1 to 8 targets in ascending order (R91). -/
structure Effect where
  typ : EffectType
  targets : List Nat
  deriving DecidableEq, Repr

/-- A kind entry (Table 5-1). The contents of an entry that has never been present are the model's own: severity 2, 60 s,
DISPATCH, not self-clearing (log entry 8). -/
structure Kind where
  present : Bool := false
  severity : Nat := 2
  ackLimit : Nat := 60
  selfClearing : Bool := false
  clearPriv : Priv := .dispatch
  templates : List EffectTemplate := []
  /-- Clearance template and class. -/
  clearance : Option (Nat × Nat) := none
  deriving DecidableEq, Repr

/-- Incident states (Table 5-3). -/
inductive IncState where
  | activeUnack | activeAck | clearedUnack
  deriving DecidableEq, Repr

/-- Who raised an incident (Table 5-3). -/
inductive Raiser where
  | regulator | powerUnit | timingUnit | classifier | composer
  | console (entry : Nat)
  deriving DecidableEq, Repr

/-- An incident entry in use (Table 5-3). -/
structure Incident where
  number : Nat
  kind : Nat
  loc : Location
  severity : Nat
  st : IncState
  raiser : Raiser
  raised : Nat
  deadline : Option Nat
  occurrences : Nat
  ackBy : Option Nat
  effects : List Effect
  deriving DecidableEq, Repr

/-- Reasons of an INCIDENT NOTICE (R107). -/
inductive IncReason where
  | raised | merged | escalated | acknowledged | cleared | freed
  deriving DecidableEq, Repr

/-- An INCIDENT NOTICE (R107); `st = none` is FREE. -/
structure IncNotice where
  number : Nat
  kind : Nat
  loc : Location
  severity : Nat
  st : Option IncState
  occurrences : Nat
  ackBy : Option Nat
  reason : IncReason
  count : Nat := 1
  superseded : Option Nat := none
  deriving DecidableEq, Repr

/-- An entry of Table 5-2: severity 2, 60 s, no templates. -/
def resetKind (selfClearing : Bool) (clearPriv : Priv) : Kind :=
  { present := true, severity := 2, ackLimit := 60, selfClearing := selfClearing, clearPriv := clearPriv }

/-- Kinds 1–8 as Table 5-2 gives them. -/
def resetKinds : Tab Kind :=
  [(1, resetKind true .dispatch), (2, resetKind true .power), (3, resetKind true .power), (4, resetKind true .dispatch),
   (5, resetKind false .dispatch), (6, resetKind true .dispatch), (7, resetKind true .power), (8, resetKind false .power)]

structure IncidentUnit where
  kinds : Tab Kind := resetKinds
  entries : Tab (Option Incident) := []
  cleared : List Nat := []
  nextNumber : Nat := 1
  overflow : Nat := 0
  /-- The notice slots (R108): `none` is idle. -/
  notices : Tab (Option IncNotice) := []
  /-- The notice order (R108). -/
  order : List Nat := []
  /-- The effective values of Table 6-1. -/
  interlock : Tab Bool := []
  fraction : Tab Nat := []
  held : Tab Bool := []
  headway : Tab Bool := []
  deriving DecidableEq, Repr

/-! ## Announcement composer (chapters 7 and 8) -/

/-- Slot markers, in the order of R124. -/
inductive Marker where
  | dest | platform | late | next | place | arg1 | arg2 | name
  deriving DecidableEq, Repr

/-- A template element (R124). -/
inductive Element where
  | code (c : Nat)
  | marker (m : Marker)
  deriving DecidableEq, Repr

/-- An armed announcement (R134). -/
structure Arming where
  template : Option Nat := none
  cls : Nat := 1
  repeating : Bool := false
  deriving DecidableEq, Repr

/-- Zone states (Table 8-1). -/
inductive ZoneState where
  | idle | sending | gap | fault
  deriving DecidableEq, Repr

/-- Fault causes (Table 8-1). -/
inductive FaultCause where
  | noAnswer | reported | silence
  deriving DecidableEq, Repr

/-- A zone lock (Table 8-1). -/
inductive Lock where
  | unlocked
  | console (entry : Nat)
  | incident (number : Nat)
  deriving DecidableEq, Repr

/-- The origin of a queue entry (Table 8-2). -/
inductive Origin where
  | console (entry : Nat)
  | incident (number : Nat)
  | platform (p : Nat)
  deriving DecidableEq, Repr

/-- An incident tag: incident number and location copy (Table 8-2, R118). -/
structure IncTag where
  number : Nat
  loc : Location
  deriving DecidableEq, Repr

/-- The arrival context of an armed entry (R127): arriving slot, and the activated call's trip and destination. -/
structure ArrivalCtx where
  slot : Nat
  call : Option (Nat × Nat)
  deriving DecidableEq, Repr

/-- Entry states (Table 8-2). -/
inductive EntryState where
  | queued | playing | suspended
  deriving DecidableEq, Repr

/-- A zone queue entry (Table 8-2). -/
structure QEntry where
  template : Nat
  cls : Nat
  repeats : Nat
  arg1 : Nat
  arg2 : Nat
  origin : Origin
  tag : Option IncTag := none
  arrival : Option ArrivalCtx := none
  st : EntryState := .queued
  plays : Nat := 0
  savedIdx : Nat := 0
  suspended : Nat := 0
  busy : Nat := 0
  /-- The entry tag taken at its last start (R142); the model keeps it here for resends and repetitions. -/
  entryTag : Nat := 0
  /-- Code count and truncation flag of the last composition, for ZONE NOTICE (R156). -/
  lastCount : Nat := 0
  lastTrunc : Bool := false
  deriving DecidableEq, Repr

/-- A composition buffer (R132). The code count is the length of the list. -/
structure Buffer where
  codes : List Nat := []
  trunc : Bool := false
  deriving DecidableEq, Repr

/-- What selection found before it started an entry (R142): the entry as it stood, and the suspended buffer. -/
structure Start where
  entry : QEntry
  suspBuf : Buffer
  deriving DecidableEq, Repr

/-- An outstanding frame (Table 8-1): its index, its entry tag, and whether it has been queued. A frame that waits for
room carries the event at which it began to wait (the model's own stamp). -/
structure Outstanding where
  idx : Nat
  tag : Nat
  queued : Bool
  since : Nat
  /-- The model's own: the line time of the FRAME DONE at whose event this frame was sent (R155, log entry 38). -/
  boundary : Option Nat := none
  /-- The model's own: what the selection found that started the entry with this frame (R155, log entry 38). -/
  start : Option Start := none
  deriving DecidableEq, Repr

/-- Reasons of a ZONE NOTICE with their causes (R156). -/
inductive ZoneReason where
  | done
  | failedEmpty | failedNoAnswer | failedBusy
  | droppedFull | droppedEvicted
  | stale
  | unlockedRequest | unlockedTaken | unlockedAge | unlockedCleared
  | fault (cause : FaultCause)
  | ready
  deriving DecidableEq, Repr

/-- The entry concerned by a ZONE NOTICE (R156). -/
structure NoticeEntry where
  template : Nat
  cls : Nat
  origin : Origin
  tagNumber : Option Nat
  plays : Nat
  codeCount : Nat
  trunc : Bool
  deriving DecidableEq, Repr

/-- A ZONE NOTICE (R156). -/
structure ZoneNotice where
  reason : ZoneReason
  entry : Option NoticeEntry := none
  holder : Option Lock := none
  count : Nat := 1
  deriving DecidableEq, Repr

/-- A zone record (Table 8-1). -/
structure Zone where
  loaded : Bool := false
  addr : Option Nat := none
  station : Nat := 0
  platform : Option Nat := none
  st : ZoneState := .idle
  cause : Option FaultCause := none
  lock : Lock := .unlocked
  lockInstant : Nat := 0
  queue : List QEntry := []
  playBuf : Buffer := {}
  suspBuf : Buffer := {}
  outstanding : Option Outstanding := none
  deadline : Option Nat := none
  expiryRun : Nat := 0
  gapEnd : Option Nat := none
  tagCounter : Nat := 1
  /-- Waiting abort (Table 8-1), with the event at which it began to wait. -/
  abort : Option Nat := none
  notice : Option ZoneNotice := none
  deriving DecidableEq, Repr

structure Composer where
  stations : Tab (Option Nat) := []
  templates : Tab (Option (List Element)) := []
  zones : Tab Zone := []
  armings : Tab Arming := []
  zoneDrops : Nat := 0
  deriving DecidableEq, Repr

/-! ## The part -/

/-- The operating state (chapter 12). -/
inductive OpState where
  | configuring | running
  deriving DecidableEq, Repr

structure Handler where
  op : OpState := .configuring
  /-- The reply hold of the console port (R184). -/
  replyHold : Option Frame := none
  deriving DecidableEq, Repr

/-- The part's whole state. -/
structure State where
  /-- The model's own: the commands that wait, first in first out. -/
  pending : List Instr := []
  /-- The reset input is asserted (R200). -/
  resetHeld : Bool := false
  /-- The model's own: a number for each event taken, for the order of waiting frames (R185). -/
  event : Nat := 0
  hnd : Handler := {}
  cls : Classifier := {}
  tim : Timing := {}
  reg : Regulator := {}
  pow : Power := {}
  inc : IncidentUnit := {}
  com : Composer := {}
  fieldPort : PortState := {}
  consolePort : PortState := {}
  deriving DecidableEq, Repr

/-- Console entry 0 from the straps, with SUPERVISOR; entries 1–7 empty (R168). -/
def strapConsoles (straps : BitVec 12) : Tab (Option ConsoleEntry) :=
  [(0, some { addr := straps.toNat, privs := { view := false, dispatch := false, power := false, supervisor := true } })]

/-- The part when reset is released with these straps (R200, Table 12-7): every item at its reset value. -/
def State.afterReset (straps : BitVec 12) : State :=
  { cls := { consoles := strapConsoles straps } }

/-- The part while reset is asserted (R200): every block holds its reset state and the straps are not yet sampled. -/
def State.inReset : State :=
  { resetHeld := true }

/-- The machine right after reset, strapped as `Config.resetStraps` says (log entry 2). -/
def State.reset : State := State.afterReset Config.resetStraps

end Sys2Proof.Machine
end

