-- ==== Sys2Proof/Machine/Tables.lean ====
section
/-! DEFINITION. Reading and writing the tables of records, and the arithmetic of section 3 of the spec. -/

namespace Sys2Proof.Machine

/-- The record at index `n`; the reset record `d` where none is listed. -/
def Tab.get {α : Type} (d : α) : Tab α → Nat → α
  | [], _ => d
  | (k, v) :: t, n => if n = k then v else Tab.get d t n

/-- The table with `v` at index `n`: an entry equal to the reset record is not listed. -/
def Tab.set {α : Type} [DecidableEq α] (d : α) : Tab α → Nat → α → Tab α
  | [], n, v => if v = d then [] else [(n, v)]
  | (k, w) :: t, n, v =>
    if n = k then (if v = d then Tab.set d t n v else (n, v) :: t)
    else if n < k ∧ v ≠ d then (n, v) :: (k, w) :: t
    else (k, w) :: Tab.set d t n v

/-- Every index of the table lies above `lo`, the indices rise, and no entry is the reset record. -/
def Tab.wfFrom {α : Type} [DecidableEq α] (d : α) : Option Nat → Tab α → Bool
  | _, [] => true
  | lo, (k, v) :: t =>
    (match lo with | none => true | some l => decide (l < k)) && decide (v ≠ d) && Tab.wfFrom d (some k) t

/-- The canonical form: indices strictly rising, no entry equal to the reset record. -/
def Tab.wf {α : Type} [DecidableEq α] (d : α) (t : Tab α) : Bool := Tab.wfFrom d none t

/-- The table whose record at each index below `n` is `f` of it. -/
def Tab.ofFn {α : Type} [DecidableEq α] (d : α) (n : Nat) (f : Nat → α) : Tab α :=
  ((List.range n).map (fun i => (i, f i))).filter (fun e => decide (e.2 ≠ d))

/-- The indices below `n` that satisfy `p`, ascending (the order the rules ask for). -/
def indices (n : Nat) (p : Nat → Bool) : List Nat := (List.range n).filter p

/-- A value clamped to lo..hi (3.7). -/
def clamp (lo hi x : Int) : Int := if x < lo then lo else if hi < x then hi else x

/-- A counter that rises by one and saturates at `cap` (3.7). -/
def satSucc (cap n : Nat) : Nat := min (n + 1) cap

/-- A line time `d` eighths on, taken as 1,048,575 if it lies beyond that (3.1). -/
def after (now d : Nat) : Nat := min (now + d) Config.maxTime

/-- Lateness, saturated (3.6). -/
def satLateness (x : Int) : Int := clamp (-32768) 32767 x

/-- The smallest element of a list. -/
def leastOf : List Nat → Option Nat
  | [] => none
  | a :: l => match leastOf l with
    | none => some a
    | some b => some (min a b)

/-- The largest element of a list, 0 of the empty one. -/
def greatest : List Nat → Nat
  | [] => 0
  | a :: l => max a (greatest l)

/-- Insertion into an ascending list, each value once. -/
def insertAsc (a : Nat) : List Nat → List Nat
  | [] => [a]
  | b :: l => if a < b then a :: b :: l else if a = b then b :: l else b :: insertAsc a l

/-- The values of a list, each once, ascending. -/
def sortAsc : List Nat → List Nat
  | [] => []
  | a :: l => insertAsc a (sortAsc l)

end Sys2Proof.Machine
end

