-- ==== Sys2Proof/Machine/Frames.lean ====
section
/-! DEFINITION. Bytes: the CRC-16 and the frame of R181 and Table 11-3, and the field codings of R188 and R189. -/

namespace Sys2Proof.Machine

/-! ## CRC-16 (R181) -/

/-- One data bit into the CRC register: shift left, and XOR 0x1021 where the bit shifted out differs from the data bit. -/
def crcBit (reg : BitVec 16) (bit : Bool) : BitVec 16 :=
  let shifted := reg <<< 1
  if xor reg.msb bit then shifted ^^^ 0x1021#16 else shifted

/-- One byte, most significant bit first. -/
def crcByte (reg : BitVec 16) (b : Byte) : BitVec 16 :=
  [7, 6, 5, 4, 3, 2, 1, 0].foldl (fun r i => crcBit r (b.getLsbD i)) reg

/-- The CRC-16 of a run: register 0xFFFF at the start, no final XOR (R181). -/
def crc16 (bytes : List Byte) : BitVec 16 := bytes.foldl crcByte 0xFFFF#16

/-! ## Fields (R188, R189) -/

/-- A number in one byte. -/
def u8 (n : Nat) : List Byte := [BitVec.ofNat 8 n]
/-- A number in two bytes, most significant first. -/
def u16 (n : Nat) : List Byte := [BitVec.ofNat 8 (n / 256), BitVec.ofNat 8 n]
/-- A line time: three bytes, most significant first. -/
def u24 (n : Nat) : List Byte := [BitVec.ofNat 8 (n / 65536), BitVec.ofNat 8 (n / 256), BitVec.ofNat 8 n]
/-- A signed number in one byte, two's complement. -/
def i8 (x : Int) : List Byte := [BitVec.ofInt 8 x]
/-- A signed number in two bytes, two's complement. -/
def i16 (x : Int) : List Byte := u16 (BitVec.ofInt 16 x).toNat
/-- A flag: one byte, bit 0 (R189). -/
def flag (b : Bool) : List Byte := u8 b.toNat
/-- Optional fields: an absent one is all ones of the field's width (R1). -/
def o8 : Option Nat → List Byte
  | none => [0xFF#8]
  | some n => u8 n
def o16 : Option Nat → List Byte
  | none => [0xFF#8, 0xFF#8]
  | some n => u16 n
def o24 : Option Nat → List Byte
  | none => [0xFF#8, 0xFF#8, 0xFF#8]
  | some n => u24 n
def oi16 : Option Int → List Byte
  | none => [0xFF#8, 0xFF#8]
  | some x => i16 x
/-- A set of flags: one bit for each member, from bit 0 (R189). -/
def bits : List Bool → Nat
  | [] => 0
  | b :: l => b.toNat + 2 * bits l

/-- The number in two bytes. -/
def of16 (h l : Byte) : Nat := h.toNat * 256 + l.toNat
/-- The number in three bytes. -/
def of24 (h m l : Byte) : Nat := (h.toNat * 256 + m.toNat) * 256 + l.toNat
/-- A signed byte. -/
def ofI8 (b : Byte) : Int := b.toInt
/-- A signed two-byte number. -/
def ofI16 (h l : Byte) : Int := (BitVec.ofNat 16 (of16 h l)).toInt

/-! ## Frames (R181, Table 11-3) -/

/-- The header of Table 11-3: twelve bits of destination, twelve of source, the kind and the length. -/
def Frame.header (f : Frame) : List Byte :=
  [BitVec.ofNat 8 (f.dst / 16), BitVec.ofNat 8 (f.dst % 16 * 16 + f.src / 256), BitVec.ofNat 8 f.src,
   BitVec.ofNat 8 f.kind, BitVec.ofNat 8 f.payload.length]

/-- The run of bytes that a port transmits for a frame: header, payload and CRC, high byte first. -/
def Frame.toRun (f : Frame) : List Byte :=
  let body := f.header ++ f.payload
  body ++ u16 (crc16 body).toNat

/-- What a port makes of a delivered run (R181). -/
inductive Reception where
  | framingError
  | crcError
  | valid (f : Frame)
  deriving DecidableEq, Repr

/-- The frame whose header is these five bytes. -/
def frameOf (b0 b1 b2 b3 : Byte) (payload : List Byte) : Frame :=
  { dst := b0.toNat * 16 + b1.toNat / 16, src := b1.toNat % 16 * 256 + b2.toNat, kind := b3.toNat, payload := payload }

/-- The checks of R181 in their order: framing, then CRC. -/
def receive (run : List Byte) : Reception :=
  match run with
  | b0 :: b1 :: b2 :: b3 :: b4 :: rest =>
    let n := b4.toNat
    if run.length < 7 ∨ n > Config.payloadCap ∨ run.length ≠ 7 + n then .framingError
    else
      let sent := (rest.drop n).foldl (fun a b => a * 256 + b.toNat) 0
      if (crc16 (run.take (5 + n))).toNat = sent then .valid (frameOf b0 b1 b2 b3 (rest.take n)) else .crcError
  | _ => .framingError

end Sys2Proof.Machine
end

