-- ==== Sys2Proof/Machine/Ops.lean ====
section
/-! DEFINITION. The named operations over the part's records: one reader and one writer for each table, the line-time
tests of R158, and the record updates the blocks share. -/

namespace Sys2Proof.Machine

/-! ## Block updates -/

def State.setHnd (s : State) (h : Handler) : State := { s with hnd := h }
def State.setCls (s : State) (c : Classifier) : State := { s with cls := c }
def State.setTim (s : State) (t : Timing) : State := { s with tim := t }
def State.setReg (s : State) (r : Regulator) : State := { s with reg := r }
def State.setPow (s : State) (p : Power) : State := { s with pow := p }
def State.setInc (s : State) (i : IncidentUnit) : State := { s with inc := i }
def State.setCom (s : State) (c : Composer) : State := { s with com := c }

/-- A port by name. -/
def State.port (s : State) : Port → PortState
  | .field => s.fieldPort
  | .console => s.consolePort

def State.setPort (s : State) (p : Port) (v : PortState) : State :=
  match p with
  | .field => { s with fieldPort := v }
  | .console => { s with consolePort := v }

/-! ## Records by index -/

def State.unit (s : State) (a : Nat) : UnitEntry := Tab.get {} s.cls.units a
def State.setUnit (s : State) (a : Nat) (v : UnitEntry) : State :=
  s.setCls { s.cls with units := Tab.set {} s.cls.units a v }

def State.console (s : State) (e : Nat) : Option ConsoleEntry := Tab.get none s.cls.consoles e
def State.setConsole (s : State) (e : Nat) (v : Option ConsoleEntry) : State :=
  s.setCls { s.cls with consoles := Tab.set none s.cls.consoles e v }

def State.supervision (s : State) (a : Nat) : Supervision := Tab.get {} s.tim.supervision a
def State.setSupervision (s : State) (a : Nat) (v : Supervision) : State :=
  s.setTim { s.tim with supervision := Tab.set {} s.tim.supervision a v }

def State.slot (s : State) (t : Nat) : Slot := Tab.get {} s.reg.trains t
def State.setSlot (s : State) (t : Nat) (v : Slot) : State :=
  s.setReg { s.reg with trains := Tab.set {} s.reg.trains t v }
def State.modSlot (s : State) (t : Nat) (f : Slot → Slot) : State := s.setSlot t (f (s.slot t))

def State.trainNotice (s : State) (t : Nat) : Option TrainNotice := Tab.get none s.reg.notices t
def State.setTrainNotice (s : State) (t : Nat) (v : Option TrainNotice) : State :=
  s.setReg { s.reg with notices := Tab.set none s.reg.notices t v }

def State.plat (s : State) (p : Nat) : Platform := Tab.get {} s.reg.platforms p
def State.setPlat (s : State) (p : Nat) (v : Platform) : State :=
  s.setReg { s.reg with platforms := Tab.set {} s.reg.platforms p v }
def State.modPlat (s : State) (p : Nat) (f : Platform → Platform) : State := s.setPlat p (f (s.plat p))

def State.feeder (s : State) (i : Nat) : Feeder := Tab.get {} s.pow.feeders i
def State.setFeeder (s : State) (i : Nat) (v : Feeder) : State :=
  s.setPow { s.pow with feeders := Tab.set {} s.pow.feeders i v }
def State.modFeeder (s : State) (i : Nat) (f : Feeder → Feeder) : State := s.setFeeder i (f (s.feeder i))

def State.sect (s : State) (k : Nat) : Sect := Tab.get {} s.pow.sections k
def State.setSect (s : State) (k : Nat) (v : Sect) : State :=
  s.setPow { s.pow with sections := Tab.set {} s.pow.sections k v }
def State.modSect (s : State) (k : Nat) (f : Sect → Sect) : State := s.setSect k (f (s.sect k))

def State.pool (s : State) (t : Nat) : PoolEntry := Tab.get .free s.pow.pool t
def State.setPool (s : State) (t : Nat) (v : PoolEntry) : State :=
  s.setPow { s.pow with pool := Tab.set .free s.pow.pool t v }

def State.kind (s : State) (k : Nat) : Kind := Tab.get {} s.inc.kinds k
def State.setKind (s : State) (k : Nat) (v : Kind) : State :=
  s.setInc { s.inc with kinds := Tab.set {} s.inc.kinds k v }

def State.incident (s : State) (i : Nat) : Option Incident := Tab.get none s.inc.entries i
def State.setIncident (s : State) (i : Nat) (v : Option Incident) : State :=
  s.setInc { s.inc with entries := Tab.set none s.inc.entries i v }

def State.incNotice (s : State) (i : Nat) : Option IncNotice := Tab.get none s.inc.notices i
def State.setIncNotice (s : State) (i : Nat) (v : Option IncNotice) : State :=
  s.setInc { s.inc with notices := Tab.set none s.inc.notices i v }

/-- The effective values of Table 6-1, as the incident unit keeps them. -/
def State.interlocked (s : State) (k : Nat) : Bool := Tab.get false s.inc.interlock k
def State.fraction (s : State) (k : Nat) : Nat := Tab.get 8 s.inc.fraction k
def State.platHeld (s : State) (p : Nat) : Bool := Tab.get false s.inc.held p
def State.platHeadway (s : State) (p : Nat) : Bool := Tab.get false s.inc.headway p

def State.station (s : State) (n : Nat) : Option Nat := Tab.get none s.com.stations n
def State.setStation (s : State) (n : Nat) (v : Option Nat) : State :=
  s.setCom { s.com with stations := Tab.set none s.com.stations n v }

def State.template (s : State) (n : Nat) : Option (List Element) := Tab.get none s.com.templates n
def State.setTemplate (s : State) (n : Nat) (v : Option (List Element)) : State :=
  s.setCom { s.com with templates := Tab.set none s.com.templates n v }

def State.zone (s : State) (k : Nat) : Zone := Tab.get {} s.com.zones k
def State.setZone (s : State) (k : Nat) (v : Zone) : State :=
  s.setCom { s.com with zones := Tab.set {} s.com.zones k v }
def State.modZone (s : State) (k : Nat) (f : Zone → Zone) : State := s.setZone k (f (s.zone k))

def State.arming (s : State) (p : Nat) : Arming := Tab.get {} s.com.armings p
def State.setArming (s : State) (p : Nat) (v : Arming) : State :=
  s.setCom { s.com with armings := Tab.set {} s.com.armings p v }

/-! ## Line time and operating state -/

/-- The present line time. -/
def State.now (s : State) : Nat := s.tim.lineTime

def State.running (s : State) : Bool := decide (s.hnd.op = .running)

/-- The instant `t` as a block schedules it while the part is RUNNING: taken as 1,048,575 if it lies beyond that. Set at
the last line time, no step reaches it (R158, log entry 4). -/
def State.instant (s : State) (t : Nat) : Nat := if s.now = Config.maxTime then Config.unreached else min t Config.maxTime

/-- An instant is reached: it is scheduled, a step (or START OPERATION) has come to it, and the part is RUNNING (R158).
See log entry 4. -/
def State.reached (s : State) (instant : Option Nat) : Bool :=
  match instant with
  | none => false
  | some t => s.running && decide (t ≤ s.now)

/-! ## Trains -/

/-- The states that are at a platform whenever they occur there (1.1). -/
def TrainState.platformKind : TrainState → Bool
  | .dwelling | .held | .incidentHold | .waitingPower | .permitted => true
  | .free | .unplaced | .running | .lost => false

/-- The slot stands in an at-platform state at `p`. -/
def Slot.atPlatform (sl : Slot) (p : Nat) : Bool := sl.st.platformKind && decide (sl.platform = some p)

/-- The slot stands in an at-platform state. -/
def Slot.atAnyPlatform (sl : Slot) : Bool := sl.st.platformKind && sl.platform.isSome

/-- The train bound to a trip: the lowest-numbered slot, in any state other than FREE, with that trip (R27, R126). -/
def State.boundTo (s : State) (trip : Nat) : Option Nat :=
  (List.range Config.slots).find? (fun t => decide ((s.slot t).st ≠ .free) && decide ((s.slot t).trip = trip))

/-- The class demand of a class (R76). -/
def State.demandOf (s : State) : Nat → Nat
  | 0 => s.pow.demand0
  | 1 => s.pow.demand1
  | 2 => s.pow.demand2
  | _ => s.pow.demand3

/-- The seconds of a silence class at the last step (R163). -/
def State.testedOf (s : State) : Nat → Nat
  | 0 => s.tim.tested.1
  | 1 => s.tim.tested.2.1
  | 2 => s.tim.tested.2.2.1
  | _ => s.tim.tested.2.2.2

/-- The seconds of a silence class (R162). -/
def State.silenceOf (s : State) : Nat → Nat
  | 0 => s.tim.silence0
  | 1 => s.tim.silence1
  | 2 => s.tim.silence2
  | _ => s.tim.silence3

/-- Every slot, section, platform and zone is scanned in ascending order; these are the loaded ones. -/
def State.loadedPlatforms (s : State) : List Nat := indices Config.platforms (fun p => (s.plat p).loaded)
def State.loadedZones (s : State) : List Nat := indices Config.zones (fun k => (s.zone k).loaded)
def State.loadedSections (s : State) : List Nat := indices Config.sections (fun k => (s.sect k).loaded)

/-- The feeders of a section: the loaded feeders whose section field names it (R52). -/
def State.feedersOf (s : State) (k : Nat) : List Nat :=
  indices Config.feeders (fun i => (s.feeder i).loaded && decide ((s.feeder i).sect = k))

/-- The loaded feeder with this substation and feeder number (R53, R177). -/
def State.feederAt (s : State) (substation number : Nat) : Option Nat :=
  (List.range Config.feeders).find? (fun i =>
    (s.feeder i).loaded && decide ((s.feeder i).substation = substation) && decide ((s.feeder i).number = number))

/-! ## The call that a slot serves, and the stay's record (R25) -/

/-- The index in the ring, counted from the head, of the platform's ACTIVE-call reference (R17). -/
def Platform.activeIdx (pl : Platform) : Option Nat :=
  match pl.active with
  | none => none
  | some pos =>
    let i := (pos + Config.ringCap - pl.head) % Config.ringCap
    if i < pl.ring.length then some i else none

/-- The ACTIVE call of a platform, with its index from the head. -/
def Platform.activeCall (pl : Platform) : Option (Nat × CallRecord) :=
  match pl.activeIdx with
  | none => none
  | some i => match pl.ring[i]? with
    | none => none
    | some r => if r.disp = .active then some (i, r) else none

/-- The ACTIVE call of platform `p` if slot `t` serves it. -/
def State.servedCall (s : State) (t p : Nat) : Option (Nat × CallRecord) :=
  match (s.plat p).activeCall with
  | none => none
  | some (i, r) => if r.slot = some t then some (i, r) else none

/-- A platform with record `i` of its ring replaced. -/
def Platform.setRecord (pl : Platform) (i : Nat) (r : CallRecord) : Platform := { pl with ring := pl.ring.set i r }

/-- An update of the stay's record (R25): the ACTIVE call that the slot serves at its current platform when there is
one, and the slot's stay record otherwise. -/
def State.modStay (s : State) (t : Nat) (onCall : CallRecord → CallRecord) (onStay : Stay → Stay) : State :=
  match (s.slot t).platform with
  | none => s
  | some p => match s.servedCall t p with
    | some (i, r) => s.modPlat p (fun pl => pl.setRecord i (onCall r))
    | none => s.modSlot t (fun sl => { sl with stay := sl.stay.map onStay })

end Sys2Proof.Machine
end

