-- ==== Sys2Proof/Machine/Flags.lean ====
section
/-! DEFINITION. The flag computations of the part: the flags a call or an outcome carries (R9, R10, R12, Table 11-8),
privilege sets (R168, R191), and the codes of enumerated fields (R189: 'the position of its value in the list of
values that its owning rule or table gives, counting from 0'). -/

namespace Sys2Proof.Machine

/-! ## Flags of calls and outcomes -/

/-- The flags of a departure from state `st` (R12): NO PERMIT unless PERMITTED, CONSOLE PERMIT from the slot's flag,
NO DOORS CLOSED from DWELLING. The flags already on the record (REDUCED START, INCIDENT HELD) stay. -/
def CallFlags.departed (fl : CallFlags) (st : TrainState) (consolePermit : Bool) : CallFlags :=
  { fl with noPermit := decide (st ≠ .permitted), consolePermit := consolePermit,
            noDoorsClosed := decide (st = .dwelling) }

/-- The flags of a departure that nobody saw, from state `st` (R9, R10). -/
def CallFlags.unseen (fl : CallFlags) (st : TrainState) : CallFlags :=
  { fl with departureUnseen := true, noPermit := decide (st ≠ .permitted), noDoorsClosed := decide (st = .dwelling) }

/-- The flags that a stay record hands to its unscheduled outcome (R22, R25). -/
def Stay.flags (y : Stay) : CallFlags := { reducedStart := y.reducedStart, incidentHeld := y.incidentHeld }

/-- The flags byte of a CALL OUTCOMES entry (Table 11-8, byte 2). -/
def CallFlags.byte (fl : CallFlags) (unscheduled : Bool) : Nat :=
  bits [fl.noPermit, fl.consolePermit, fl.noDoorsClosed, fl.departureUnseen, fl.reducedStart, fl.incidentHeld, unscheduled]

/-! ## Privileges -/

/-- A set that contains SUPERVISOR counts as containing all four (R168). -/
def PrivSet.has (ps : PrivSet) : Priv → Bool
  | .view => ps.view || ps.supervisor
  | .dispatch => ps.dispatch || ps.supervisor
  | .power => ps.power || ps.supervisor
  | .supervisor => ps.supervisor

/-- The privilege set of a byte, bit k for the k-th privilege of R168. -/
def PrivSet.ofByte (n : Nat) : PrivSet :=
  { view := n % 2 = 1, dispatch := n / 2 % 2 = 1, power := n / 4 % 2 = 1, supervisor := n / 8 % 2 = 1 }

/-! ## States by class -/

/-- DEPARTED, SKIPPED, CANCELLED and LAPSED are the finished dispositions (R18). -/
def Disposition.finished : Disposition → Bool
  | .pending | .active => false
  | .departed | .skipped | .cancelled | .lapsed => true

/-- A record whose disposition is PENDING or ACTIVE. -/
def CallRecord.live (r : CallRecord) : Bool := !r.disp.finished

/-- An incident is ACTIVE in ACTIVE-UNACK and ACTIVE-ACK (R91). -/
def IncState.active : IncState → Bool
  | .activeUnack | .activeAck => true
  | .clearedUnack => false

def Incident.active (i : Incident) : Bool := i.st.active

/-! ## Codes of enumerated fields (R189) -/

def TrainState.code : TrainState → Nat
  | .free => 0 | .unplaced => 1 | .running => 2 | .dwelling => 3 | .held => 4 | .incidentHold => 5
  | .waitingPower => 6 | .permitted => 7 | .lost => 8

def TrainReason.code : TrainReason → Nat
  | .lost => 0 | .recovered => 1

/-- Table 1-5's order, for call records. -/
def Disposition.code : Disposition → Nat
  | .pending => 0 | .active => 1 | .departed => 2 | .skipped => 3 | .cancelled => 4 | .lapsed => 5

/-- Table 11-8's codes, for outcomes. -/
def Disposition.outcomeCode : Disposition → Nat
  | .departed => 0 | .skipped => 1 | .cancelled => 2 | .lapsed => 3 | .pending => 0 | .active => 0

def Mode.code : Mode → Nat
  | .off => 0 | .timetable => 1 | .headway => 2

def SectState.code : SectState → Nat
  | .unknown => 0 | .energised => 1 | .isolating => 2 | .isolated => 3 | .energising => 4 | .tripped => 5 | .fault => 6

def SectCause.code : SectCause → Nat
  | .report => 0 | .protection => 1 | .uncommanded => 2 | .switched => 3 | .reclose => 4 | .ordered => 5
  | .interlock => 6 | .switchingFailure => 7 | .measurementLost => 8 | .measurementRestored => 9 | .stopped => 10

def LocType.code : LocType → Nat
  | .train => 0 | .sect => 1 | .platform => 2 | .station => 3 | .substation => 4 | .zone => 5 | .line => 6

def IncState.code : IncState → Nat
  | .activeUnack => 0 | .activeAck => 1 | .clearedUnack => 2

/-- The state of an incident, or FREE after the three states of Table 5-3. -/
def incStateCode : Option IncState → Nat
  | some st => st.code
  | none => 3

def IncReason.code : IncReason → Nat
  | .raised => 0 | .merged => 1 | .escalated => 2 | .acknowledged => 3 | .cleared => 4 | .freed => 5

def EffectType.code : EffectType → Nat
  | .isolate => 0 | .cap _ => 1 | .hold => 2 | .headway => 3 | .announce .. => 4

def ZoneState.code : ZoneState → Nat
  | .idle => 0 | .sending => 1 | .gap => 2 | .fault => 3

def FaultCause.code : FaultCause → Nat
  | .noAnswer => 0 | .reported => 1 | .silence => 2

def EntryState.code : EntryState → Nat
  | .queued => 0 | .playing => 1 | .suspended => 2

/-- The reason of a ZONE NOTICE (R156). -/
def ZoneReason.code : ZoneReason → Nat
  | .done => 0
  | .failedEmpty | .failedNoAnswer | .failedBusy => 1
  | .droppedFull | .droppedEvicted => 2
  | .stale => 3
  | .unlockedRequest | .unlockedTaken | .unlockedAge | .unlockedCleared => 4
  | .fault _ => 5
  | .ready => 6

/-- The cause of a ZONE NOTICE, for the reasons that have one (R156). -/
def ZoneReason.causeCode : ZoneReason → Option Nat
  | .failedEmpty => some 0
  | .failedNoAnswer => some 1
  | .failedBusy => some 2
  | .droppedFull => some 0
  | .droppedEvicted => some 1
  | .unlockedRequest => some 0
  | .unlockedTaken => some 1
  | .unlockedAge => some 2
  | .unlockedCleared => some 3
  | .fault c => some c.code
  | .done | .stale | .ready => none

/-- Reasons of a REPLY (Table 12-4). -/
inductive Reason where
  | accepted | notPermitted | badArgument | wrongState | ringFull | tableFull | interlocked | busy | notFound | outOfOrder
  deriving DecidableEq, Repr

def Reason.code : Reason → Nat
  | .accepted => 0 | .notPermitted => 1 | .badArgument => 2 | .wrongState => 3 | .ringFull => 4 | .tableFull => 5
  | .interlocked => 6 | .busy => 7 | .notFound => 8 | .outOfOrder => 9

end Sys2Proof.Machine
end

