-- ==== Sys2Proof/Machine/Telegrams.lean ====
section
/-! DEFINITION. The telegrams the part makes, each as its rule names the fields and R188 and R189 code them. Every one
carries source 4095, the part's own address (log entry 6). -/

namespace Sys2Proof.Machine

/-! ## Kinds (Table 11-2) -/

abbrev kArrived : Nat := 0x10
abbrev kDoorsClosed : Nat := 0x11
abbrev kDeparted : Nat := 0x12
abbrev kPosition : Nat := 0x13
abbrev kStartRequest : Nat := 0x14
abbrev kFeederReport : Nat := 0x20
abbrev kFrameDone : Nat := 0x30
abbrev kPaBusy : Nat := 0x31
abbrev kPaFault : Nat := 0x32
abbrev kPaReady : Nat := 0x33
abbrev kHelpCall : Nat := 0x34
abbrev kHoldAdvice : Nat := 0x40
abbrev kDepartPermit : Nat := 0x41
abbrev kStartGrant : Nat := 0x42
abbrev kIsolateOrder : Nat := 0x50
abbrev kEnergiseOrder : Nat := 0x51
abbrev kPaFrame : Nat := 0x60
abbrev kPaAbort : Nat := 0x61
abbrev kDisplayUpdate : Nat := 0x62
abbrev kLineTime : Nat := 0x70
abbrev kReply : Nat := 0x80
abbrev kIncidentNotice : Nat := 0x81
abbrev kTrainNotice : Nat := 0x82
abbrev kSectionNotice : Nat := 0x83
abbrev kZoneNotice : Nat := 0x84
abbrev kCallOutcomes : Nat := 0x85

/-- The request kinds of Table 11-2: 0xC0 to 0xDE without 0xC5. -/
def isRequestKind (k : Nat) : Bool := decide (0xC0 ≤ k) && decide (k ≤ 0xDE) && decide (k ≠ 0xC5)

/-- A telegram of the part. -/
def own (dst kind : Nat) (payload : List Byte) : Frame := { dst := dst, src := Config.self, kind := kind, payload := payload }

/-! ## To the field -/

/-- HOLD ADVICE (R32): display number, the hold in whole seconds rounded up, the release instant. -/
def holdAdvice (dst display hold release : Nat) : Frame :=
  own dst kHoldAdvice (u8 display ++ u8 ((hold + 7) / 8) ++ u24 release)

/-- Full or reduced (Table 2-4): full is 0. -/
def reducedCode (reduced : Bool) : List Byte := flag reduced

/-- DEPART PERMIT (Table 2-4). -/
def departPermit (dst slot trip display sect limit : Nat) (reduced : Bool) (g : Nat) : Frame :=
  own dst kDepartPermit (u8 slot ++ u16 trip ++ u8 display ++ u8 sect ++ u16 limit ++ reducedCode reduced ++ u24 g)

/-- START GRANT (Table 2-4). -/
def startGrant (dst slot trip sect limit : Nat) (reduced : Bool) (g : Nat) : Frame :=
  own dst kStartGrant (u8 slot ++ u16 trip ++ u8 sect ++ u16 limit ++ reducedCode reduced ++ u24 g)

def OrderKind.telegram : OrderKind → Nat
  | .isolate => kIsolateOrder
  | .energise => kEnergiseOrder

/-- ISOLATE ORDER and ENERGISE ORDER (R67): substation, feeder number, section, attempt count. -/
def breakerOrder (k : OrderKind) (dst substation number sect attempts : Nat) : Frame :=
  own dst k.telegram (u8 substation ++ u8 number ++ u8 sect ++ u8 attempts)

/-- PA FRAME (Table 11-6): zone, entry tag, bit 7 last frame with the frame index, code count, the codes. -/
def paFrame (dst zone tag idx : Nat) (last : Bool) (codes : List Nat) : Frame :=
  own dst kPaFrame (u8 zone ++ u8 tag ++ u8 (last.toNat * 128 + idx) ++ u8 codes.length ++ codes.flatMap u16)

/-- PA ABORT (R150): the zone. -/
def paAbort (dst zone : Nat) : Frame := own dst kPaAbort (u8 zone)

/-- A display content (R45): a count, then each line's destination and countdown. -/
def cellBytes (c : List CellLine) : List Byte := u8 c.length ++ c.flatMap (fun l => u8 l.dest ++ u8 l.countdown)

/-- DISPLAY UPDATE (R47): display number and content. -/
def displayUpdate (dst display : Nat) (content : List CellLine) : Frame :=
  own dst kDisplayUpdate (u8 display ++ cellBytes content)

/-- LINE TIME (R161): destination 0, line time and slew remainder. -/
def lineTimeTelegram (t : Nat) (slew : Int) : Frame := own 0 kLineTime (u24 t ++ i8 slew)

/-! ## To the consoles -/

/-- A location: type and index. -/
def locBytes (l : Location) : List Byte := u8 l.typ.code ++ u8 l.idx

/-- REPLY (Table 11-9). -/
def replyFrame (dst kind : Nat) (reason : Reason) (result : List Byte) : Frame :=
  own dst kReply (u8 kind ++ u8 reason.code ++ result)

/-- INCIDENT NOTICE (R107). -/
def IncNotice.frame (n : IncNotice) : Frame :=
  own Config.allConsoles kIncidentNotice
    (u16 n.number ++ u8 n.kind ++ locBytes n.loc ++ u8 n.severity ++ u8 (incStateCode n.st) ++ u8 n.occurrences ++
     o8 n.ackBy ++ u8 n.reason.code ++ u8 n.count ++ o16 n.superseded)

/-- A notice of severity 3 or 4 belongs to the urgent queue (R107). -/
def IncNotice.lane (n : IncNotice) : Lane := if 3 ≤ n.severity then .urgent else .normal

/-- TRAIN NOTICE (R14). -/
def TrainNotice.frame (slot : Nat) (n : TrainNotice) : Frame :=
  own Config.allConsoles kTrainNotice
    (u8 slot ++ o16 n.addr ++ u16 n.trip ++ u8 n.st.code ++ o8 n.platform ++ o8 n.sect ++ flag n.noTraction ++
     u8 n.reason.code ++ u8 n.count)

/-- SECTION NOTICE (R72): the figures are the section's at the moment it is queued. -/
def SectNotice.frame (k : Nat) (v : Sect) (n : SectNotice) : Frame :=
  own Config.allConsoles kSectionNotice
    (u8 k ++ u8 n.before.code ++ u8 n.after.code ++ u8 n.cause.code ++ u8 v.attempts ++ i16 v.m ++ flag v.measLost ++ u8 n.count)

/-- An origin: its type (0 console, 1 incident, 2 platform), then its value. DESIGN CHOICE (log entry 34): R156 and R189 give
a field that holds one of several kinds of value no bytes of its own. -/
def originBytes : Origin → List Byte
  | .console e => u8 0 ++ u8 e
  | .incident n => u8 1 ++ u16 n
  | .platform p => u8 2 ++ u8 p

/-- A lock or a former holder: its type (0 none, 1 console, 2 incident), then its value. DESIGN CHOICE (log entry 34), as for
an origin. -/
def lockBytes : Lock → List Byte
  | .unlocked => u8 0
  | .console e => u8 1 ++ u8 e
  | .incident n => u8 2 ++ u16 n

def NoticeEntry.bytes (e : NoticeEntry) : List Byte :=
  u8 e.template ++ u8 e.cls ++ originBytes e.origin ++ o16 e.tagNumber ++ u8 e.plays ++ u8 e.codeCount ++ flag e.trunc

/-- The fields of a ZONE NOTICE after the zone (R156): the cause, the entry and the former holder stand only for the reasons
that have them (R189). -/
def ZoneNotice.fields (n : ZoneNotice) : List Byte :=
  u8 n.reason.code ++
  (match n.reason.causeCode with | none => [] | some c => u8 c) ++
  (match n.entry with | none => [] | some e => e.bytes) ++
  (match n.holder with | none => [] | some h => lockBytes h) ++ u8 n.count

/-- ZONE NOTICE (R156). -/
def ZoneNotice.frame (k : Nat) (n : ZoneNotice) : Frame := own Config.allConsoles kZoneNotice (u8 k ++ n.fields)

/-- One CALL OUTCOMES entry (Table 11-8). -/
def Outcome.bytes (o : Outcome) : List Byte :=
  u8 (o.disp.outcomeCode * 64 + o.platform) ++ o8 o.slot ++ u8 (o.flags.byte o.trip.isNone) ++ o16 o.trip ++
  o24 o.schedDep ++ o24 o.arrival ++ o24 o.departure ++ u16 o.hold ++ u16 (min o.wait 65535)

/-- CALL OUTCOMES (R49): 1 to 3 entries in buffer order, to 4094. -/
def callOutcomes (os : List Outcome) : Frame := own Config.allConsoles kCallOutcomes (os.flatMap Outcome.bytes)

/-- The urgent kinds of a forwarded copy (R171). -/
def urgentCopy (kind : Nat) : Bool := kind = kStartRequest || kind = kPaFault || kind = kHelpCall

/-- The urgent kinds of a passed console telegram (Table 11-1). -/
def urgentPassed (kind : Nat) : Bool :=
  kind = kDepartPermit || kind = kStartGrant || kind = kIsolateOrder || kind = kEnergiseOrder || kind = kPaAbort

end Sys2Proof.Machine
end

