-- ==== Sys2Proof/Machine/Queues.lean ====
section
/-! DEFINITION. Outbound queues, waiting frames and room lists (R183 to R185), the reply path (R184, R193) and the call
outcomes telegram (R49, R50). -/

namespace Sys2Proof.Machine

/-! ## Queues -/

def laneCap : Lane → Nat
  | .urgent => Config.urgentCap
  | .normal => Config.normalCap

def PortState.queue (v : PortState) : Lane → List Frame
  | .urgent => v.urgent
  | .normal => v.normal

def PortState.setQueue (v : PortState) (q : Lane) (l : List Frame) : PortState :=
  match q with
  | .urgent => { v with urgent := l }
  | .normal => { v with normal := l }

def PortState.room (v : PortState) : Lane → List Block
  | .urgent => v.urgentRoom
  | .normal => v.normalRoom

def PortState.setRoom (v : PortState) (q : Lane) (l : List Block) : PortState :=
  match q with
  | .urgent => { v with urgentRoom := l }
  | .normal => { v with normalRoom := l }

/-- The queue has a free place (R183). -/
def State.hasRoom (s : State) (p : Port) (q : Lane) : Bool := decide (((s.port p).queue q).length < laneCap q)

/-- A frame joins the end of a queue. -/
def State.enqueue (s : State) (p : Port) (q : Lane) (f : Frame) : State :=
  s.setPort p ((s.port p).setQueue q ((s.port p).queue q ++ [f]))

/-- A frame is lost and counted as an outbound discard (R184). -/
def State.countDiscard (s : State) (p : Port) : State :=
  s.setPort p { s.port p with outboundDiscards := satSucc Config.counterMax (s.port p).outboundDiscards }

/-- Queued if there is room, discarded otherwise: forwarded copies and passed console telegrams (Table 11-1). -/
def State.queueOrDiscard (s : State) (p : Port) (q : Lane) (f : Frame) : State :=
  if s.hasRoom p q then s.enqueue p q f else s.countDiscard p

/-- Urgent, and normal when urgent is full (R184). -/
def State.laneEither (s : State) (p : Port) : Option Lane :=
  if s.hasRoom p .urgent then some .urgent else if s.hasRoom p .normal then some .normal else none

/-! ## What a block holds for a queue (R184, Table 11-1) -/

/-- The PLAYING entry of a zone (R138). -/
def Zone.playing (z : Zone) : Option QEntry := z.queue.find? (fun e => decide (e.st = .playing))

/-- The zone's frame goes to the urgent queue: its PLAYING entry is EMERGENCY (R143). -/
def Zone.urgentFrame (z : Zone) : Bool :=
  match z.playing with
  | none => false
  | some e => decide (e.cls = 4)

/-- The zone's outstanding frame waits for room (R143). -/
def Zone.frameWaits (z : Zone) : Bool :=
  match z.outstanding with
  | none => false
  | some o => !o.queued

/-- A CALL OUTCOMES telegram is to be formed: three outcomes wait or the oldest has waited 16 eighths (R49); any outcome
while CONFIGURING (R50). -/
def State.outcomesDue (s : State) : Bool :=
  match s.reg.outcomes with
  | [] => false
  | o :: _ => if s.running then decide (3 ≤ s.reg.outcomes.length) || decide (after o.entered 16 ≤ s.now) else true

/-- The block holds at least one frame that waits for this queue (R185). -/
def State.holds (s : State) (p : Port) (q : Lane) (b : Block) : Bool :=
  match p, b with
  | .field, .regulator =>
    s.reg.trains.any (fun e => (s.slot e.1).permit.isSome || (decide (q = .normal) && (s.slot e.1).advice.isSome)) ||
    (decide (q = .normal) && s.reg.platforms.any (fun e => (s.plat e.1).cellSince.isSome))
  | .field, .powerUnit => s.pow.feeders.any (fun e => (s.feeder e.1).waiting.isSome)
  | .field, .composer =>
    s.com.zones.any (fun e => (s.zone e.1).abort.isSome ||
      ((s.zone e.1).frameWaits && (decide (q = .normal) || (s.zone e.1).urgentFrame)))
  | .field, .timingUnit => decide (q = .normal) && s.tim.waiting
  | .console, .regulator =>
    decide (q = .normal) && (s.reg.notices.any (fun e => (s.trainNotice e.1).isSome) || s.outcomesDue)
  | .console, .powerUnit => decide (q = .normal) && s.pow.sections.any (fun e => (s.sect e.1).notice.isSome)
  | .console, .incidentUnit =>
    s.inc.order.any (fun i => match s.incNotice i with | none => false | some n => decide (n.lane = q))
  | .console, .composer => decide (q = .normal) && s.com.zones.any (fun e => (s.zone e.1).notice.isSome)
  | .console, .requestHandler => s.hnd.replyHold.isSome
  | .field, .incidentUnit | .field, .requestHandler | .console, .timingUnit => false

/-! ## Room lists (R185) -/

/-- One of the block's frames is about to wait for the queue: the block joins the tail of its list, unless it already
stands there for another waiting frame. Used on the state BEFORE the frame begins to wait. -/
def State.join (s : State) (p : Port) (q : Lane) (b : Block) : State :=
  let l := (s.port p).room q
  if l.contains b && s.holds p q b then s
  else s.setPort p ((s.port p).setRoom q (l.filter (fun x => decide (x ≠ b)) ++ [b]))

/-- A frame that may go to either queue puts its block on both lists (R185). -/
def State.joinBoth (s : State) (p : Port) (b : Block) : State := (s.join p .urgent b).join p .normal b

/-- A list without the blocks that hold nothing more for its queue (R185). -/
def State.pruneOne (s : State) (p : Port) (q : Lane) : State :=
  s.setPort p ((s.port p).setRoom q (((s.port p).room q).filter (s.holds p q)))

/-- The four lists, each without the blocks that hold nothing more for it. -/
def State.prune (s : State) : State :=
  (((s.pruneOne .field .urgent).pruneOne .field .normal).pruneOne .console .urgent).pruneOne .console .normal

/-- One event: it takes the next event number, acts, and leaves on the room lists the blocks that hold a frame. -/
def State.take (s : State) (act : State → State) : State := (act { s with event := s.event + 1 }).prune

/-! ## The reply path (R184, R193) -/

/-- A REPLY goes to the console port's urgent queue, else to the normal queue, else into the reply hold. -/
def State.sendReply (s : State) (f : Frame) : State :=
  match s.laneEither .console with
  | some q => s.enqueue .console q f
  | none => (s.joinBoth .console .requestHandler).setHnd { s.hnd with replyHold := some f }

/-! ## Call outcomes (R48 to R50) -/

/-- An outcome joins the batch buffer; a full buffer first loses its oldest, counted (R48). -/
def State.pushOutcome (s : State) (o : Outcome) : State :=
  if s.reg.outcomes.length < Config.outcomeCap then s.setReg { s.reg with outcomes := s.reg.outcomes ++ [o] }
  else s.setReg { s.reg with outcomes := s.reg.outcomes.drop 1 ++ [o],
                             outcomeLoss := satSucc Config.counterMax s.reg.outcomeLoss }

/-- One CALL OUTCOMES telegram with the oldest 1 to 3 outcomes (R49). -/
def State.formOutcomes (s : State) : State :=
  (s.enqueue .console .normal (callOutcomes (s.reg.outcomes.take 3))).setReg
    { s.reg with outcomes := s.reg.outcomes.drop 3 }

/-- The test of R49 and R50: a telegram is formed if there is room, and the regulator joins the room list if not. -/
def State.tryOutcomes (s : State) : State :=
  if s.outcomesDue then
    (if s.hasRoom .console .normal then s.formOutcomes else s.join .console .normal .regulator)
  else s

/-- The test repeated after each telegram, at most `n` times (R49: 'after each telegram the conditions are tested
again'). -/
def State.flushOutcomes : Nat → State → State
  | 0, s => s
  | n + 1, s => if s.outcomesDue && s.hasRoom .console .normal then State.flushOutcomes n s.formOutcomes else s.tryOutcomes

end Sys2Proof.Machine
end

