-- ==== Sys2Proof/Machine/Notices.lean ====
section
/-! DEFINITION. Notices to the consoles (R14, R72, R108, R156) and the telegrams to the field that wait with a slot, a
feeder, a cell or a zone (R32, R38, R47, R67, R143, R150, R161). -/

namespace Sys2Proof.Machine

/-! ## TRAIN NOTICE (R14) -/

/-- The TRAIN NOTICE of a slot as it stands. -/
def State.trainNoticeNow (s : State) (t : Nat) (reason : TrainReason) (count : Nat) : TrainNotice :=
  let sl := s.slot t
  { addr := sl.addr, trip := sl.trip, st := sl.st, platform := sl.platform, sect := sl.sect,
    noTraction := sl.noTraction, reason := reason, count := count }

/-- A TRAIN NOTICE is made due (R14): queued at once from an idle notice slot with room, held otherwise; a pending
notice is replaced and its change count rises. -/
def State.trainDue (s : State) (t : Nat) (reason : TrainReason) : State :=
  match s.trainNotice t with
  | some n => s.setTrainNotice t (some (s.trainNoticeNow t reason (satSucc 255 n.count)))
  | none =>
    if s.hasRoom .console .normal then s.enqueue .console .normal ((s.trainNoticeNow t reason 1).frame t)
    else (s.join .console .normal .regulator).setTrainNotice t (some (s.trainNoticeNow t reason 1))

/-! ## SECTION NOTICE (R71, R72) -/

/-- A SECTION NOTICE is made due for a change from `before` to the section's present state (R72). -/
def State.sectDue (s : State) (k : Nat) (before : SectState) (cause : SectCause) : State :=
  let v := s.sect k
  match v.notice with
  | some n => s.setSect k { v with notice := some { n with after := v.st, cause := cause, count := satSucc 255 n.count } }
  | none =>
    let n : SectNotice := { before := before, after := v.st, cause := cause, count := 1 }
    if s.hasRoom .console .normal then s.enqueue .console .normal (n.frame k v)
    else (s.join .console .normal .powerUnit).setSect k { v with notice := some n }

/-! ## INCIDENT NOTICE (R107, R108) -/

/-- A pending notice of this queue stands in the notice order. -/
def State.noticeAhead (s : State) (q : Lane) : Bool :=
  s.inc.order.any (fun i => match s.incNotice i with | none => false | some n => decide (n.lane = q))

/-- An INCIDENT NOTICE is made due for entry `i` (R108). -/
def State.incDue (s : State) (i : Nat) (n : IncNotice) : State :=
  match s.incNotice i with
  | none =>
    if s.hasRoom .console n.lane && !s.noticeAhead n.lane then s.enqueue .console n.lane n.frame
    else
      let s := (s.join .console n.lane .incidentUnit).setIncNotice i (some n)
      s.setInc { s.inc with order := s.inc.order ++ [i] }
  | some old =>
    (s.join .console n.lane .incidentUnit).setIncNotice i (some { n with
      count := satSucc 255 old.count,
      superseded := if old.number ≠ n.number then some old.number else old.superseded })

/-- The notice of an incident for a reason, with the state after the event (R107). -/
def Incident.notice (v : Incident) (st : Option IncState) (reason : IncReason) : IncNotice :=
  { number := v.number, kind := v.kind, loc := v.loc, severity := v.severity, st := st,
    occurrences := v.occurrences, ackBy := v.ackBy, reason := reason }

/-! ## ZONE NOTICE (R156) -/

/-- A ZONE NOTICE is made due (R156). -/
def State.zoneDue (s : State) (k : Nat) (n : ZoneNotice) : State :=
  match (s.zone k).notice with
  | some old => s.modZone k (fun z => { z with notice := some { n with count := satSucc 255 old.count } })
  | none =>
    if s.hasRoom .console .normal then s.enqueue .console .normal (n.frame k)
    else (s.join .console .normal .composer).modZone k (fun z => { z with notice := some n })

/-- The entry concerned by a notice, with the figures of its last composition (R156). -/
def QEntry.noticeEntry (e : QEntry) : NoticeEntry :=
  { template := e.template, cls := e.cls, origin := e.origin, tagNumber := e.tag.map IncTag.number,
    plays := e.plays, codeCount := e.lastCount, trunc := e.lastTrunc }

/-- A notice about an entry of the zone: DONE, FAILED, DROPPED or STALE. -/
def State.entryDue (s : State) (k : Nat) (reason : ZoneReason) (e : QEntry) : State :=
  s.zoneDue k { reason := reason, entry := some e.noticeEntry }

/-- A notice UNLOCKED, with the former holder. -/
def State.unlockDue (s : State) (k : Nat) (reason : ZoneReason) (holder : Lock) : State :=
  s.zoneDue k { reason := reason, holder := some holder }

/-! ## Telegrams to trains (R32, R38) -/

/-- HOLD ADVICE to the slot's unit: queued, or waiting with the slot; a newer one replaces it (R32). -/
def State.sendAdvice (s : State) (t : Nat) (f : Frame) : State :=
  if s.hasRoom .field .normal then (s.enqueue .field .normal f).modSlot t (fun sl => { sl with advice := none })
  else (s.join .field .normal .regulator).modSlot t (fun sl => { sl with advice := some { frame := f, since := s.event } })

/-- A permit or grant that waits with its slot (R38). -/
def State.holdPermit (s : State) (t : Nat) (f : Frame) : State :=
  (s.joinBoth .field .regulator).modSlot t (fun sl => { sl with permit := some { frame := f, since := s.event } })

/-- DEPART PERMIT or START GRANT: urgent, else normal, else waiting with the slot (R38). -/
def State.sendPermit (s : State) (t : Nat) (f : Frame) : State :=
  match s.laneEither .field with
  | some q => (s.enqueue .field q f).modSlot t (fun sl => { sl with permit := none })
  | none => s.holdPermit t f

/-! ## Breaker orders (R67) -/

/-- The unit address of a substation: the lowest whose entry has role SUBSTATION and this index (R67). -/
def State.substationAddr (s : State) (sub : Nat) : Option Nat :=
  leastOf ((s.cls.units.filter (fun e =>
    decide ((s.unit e.1).role = .substation) && decide ((s.unit e.1).index = sub))).map Prod.fst)

/-- An order for one feeder: urgent, else normal, else waiting with the feeder; not sent when no unit qualifies (R67). -/
def State.sendOrder (s : State) (kind : OrderKind) (i : Nat) : State :=
  let fd := s.feeder i
  match s.substationAddr fd.substation with
  | none => s
  | some a =>
    let f := breakerOrder kind a fd.substation fd.number fd.sect (s.sect fd.sect).attempts
    match s.laneEither .field with
    | some q => (s.enqueue .field q f).modFeeder i (fun v => { v with waiting := none })
    | none => (s.joinBoth .field .powerUnit).modFeeder i
        (fun v => { v with waiting := some { kind := kind, frame := f, since := s.event } })

/-! ## Display cells (R43 to R47) -/

/-- The lateness that counts for a trip: that of the bound train, 0 without one or while absent (R27, R44). -/
def State.latenessOf (s : State) (trip : Nat) : Int :=
  match s.boundTo trip with
  | none => 0
  | some t => (s.slot t).lateness.getD 0

/-- The countdown of a PENDING call (R44). -/
def countdown (x now : Int) : Nat := if x - now ≤ 240 then 0 else (min ((x - now + 479) / 480) 99).toNat

/-- One line of a cell for a record that is PENDING or ACTIVE (R44, R45). -/
def State.cellLine (s : State) (r : CallRecord) : CellLine :=
  { dest := r.dest,
    countdown := if r.disp = .active then 0 else countdown ((r.schedArr : Int) + s.latenessOf r.trip) s.now }

/-- The first two records from the head whose disposition is PENDING or ACTIVE (R45). -/
def Platform.shown (pl : Platform) : List CallRecord := (pl.ring.filter CallRecord.live).take 2

/-- The content that a recomputation gives (R45). -/
def State.cellContent (s : State) (p : Nat) : List CellLine := (s.plat p).shown.map s.cellLine

/-- The interval since the last send has passed (R47). -/
def State.cellRipe (s : State) (p : Nat) : Bool := decide (after (s.plat p).lastSend 16 ≤ s.now)

/-- DISPLAY UPDATE with the content of this moment; the cell is no longer pending (R47). -/
def State.sendCell (s : State) (p : Nat) : State :=
  let pl := s.plat p
  (s.enqueue .field .normal (displayUpdate pl.displayAddr pl.display pl.cellNow)).setPlat p
    { pl with cellSent := pl.cellNow, lastSend := s.now, cellPending := false, cellSince := none }

/-- A cell that is to be sent is sent if every condition of R47 holds, and is pending otherwise. A cell that lacks only
room waits for it (R185). A platform whose display unit address is 0 sends nothing, and its pending flag stays as it is:
DESIGN CHOICE (log entry 15), since R47 says only that it keeps its cell and sends no DISPLAY UPDATE. -/
def State.tryCell (s : State) (p : Nat) : State :=
  let pl := s.plat p
  if pl.displayAddr = 0 then s
  else if s.running && s.cellRipe p then
    (if s.hasRoom .field .normal then s.sendCell p
     else (s.join .field .normal .regulator).setPlat p
       { pl with cellPending := true, cellSince := some (pl.cellSince.getD s.event) })
  else s.setPlat p { pl with cellPending := true }

/-- A recomputation of a loaded platform's cell (R45 to R47). -/
def State.recompute (s : State) (p : Nat) : State :=
  let pl := s.plat p
  let c := s.cellContent p
  if !pl.loaded || decide (c = pl.cellNow) then s
  else
    let s := s.setPlat p { pl with cellNow := c }
    if c = pl.cellSent then s.modPlat p (fun pl => { pl with cellPending := false, cellSince := none })
    else s.tryCell p

/-- A recomputation of each of the platforms named, in the order named. DESIGN CHOICE (log entry 40): where one event has
several platforms recomputed, the callers name them by ascending index; R46 and R47 give no order. -/
def State.recomputeAll (s : State) (ps : List Nat) : State := ps.foldl State.recompute s

/-- The loaded platforms whose first two PENDING or ACTIVE records include a trip (R46). -/
def State.showing (s : State) (trip : Nat) : List Nat :=
  indices Config.platforms (fun p => (s.plat p).loaded && (s.plat p).shown.any (fun r => decide (r.trip = trip)))

/-! ## LINE TIME (R161) -/

/-- The LINE TIME telegram of this moment joins the field port's normal queue, and none waits any more. -/
def State.queueLineTime (s : State) : State :=
  (s.enqueue .field .normal (lineTimeTelegram s.now s.tim.slew)).setTim { s.tim with waiting := false }

/-! ## PA FRAME and PA ABORT (R143, R150) -/

/-- The codes of frame `k` of a buffer: 8k to 8k + 7 (R143). -/
def Buffer.frameCodes (b : Buffer) (k : Nat) : List Nat := (b.codes.drop (8 * k)).take 8

/-- A list of n codes makes (n + 7) div 8 frames (R143). -/
def Buffer.frames (b : Buffer) : Nat := (b.codes.length + 7) / 8

/-- The PA FRAME of the zone's outstanding frame. -/
def Zone.paFrame (z : Zone) (k : Nat) (o : Outstanding) : Frame :=
  Machine.paFrame (z.addr.getD 0) k o.tag o.idx (decide (o.idx + 1 = z.playBuf.frames)) (z.playBuf.frameCodes o.idx)

/-- The zone's outstanding frame joins a queue, and its deadline is set (R143). -/
def State.queueZoneFrame (s : State) (k : Nat) (q : Lane) : State :=
  let z := s.zone k
  match z.outstanding with
  | none => s
  | some o =>
    (s.enqueue .field q (z.paFrame k o)).setZone k
      { z with outstanding := some { o with queued := true },
               deadline := some (s.instant (s.now + (32 + 8 * (z.playBuf.frameCodes o.idx).length))) }

/-- The queue in which a frame of the zone finds room now: urgent, else normal, for an EMERGENCY entry; normal for any
other (R143). A frame of a zone whose PA ABORT waits is not queued before the abort (R150). -/
def State.zoneLane (s : State) (k : Nat) : Option Lane :=
  let z := s.zone k
  if z.abort.isSome then none
  else if z.urgentFrame then s.laneEither .field
  else if s.hasRoom .field .normal then some .normal else none

/-- The zone sends frame `idx` (R143): it becomes the outstanding frame, and is queued or waits for room. -/
def State.sendFrame (s : State) (k idx tag run : Nat) : State :=
  let s := if (s.zone k).urgentFrame then (if (s.zoneLane k).isNone then s.joinBoth .field .composer else s)
           else (if (s.zoneLane k).isNone then s.join .field .normal .composer else s)
  let s := s.modZone k (fun z => { z with
    st := .sending, outstanding := some { idx := idx, tag := tag, queued := false, since := s.event },
    deadline := none, gapEnd := none, expiryRun := run })
  match s.zoneLane k with
  | none => s
  | some q => s.queueZoneFrame k q

/-- PA ABORT to the zone's PA unit: urgent, else normal, else on the waiting-abort flag (R150). -/
def State.sendAbort (s : State) (k : Nat) : State :=
  match s.laneEither .field with
  | some q => s.enqueue .field q (paAbort ((s.zone k).addr.getD 0) k)
  | none => (s.joinBoth .field .composer).modZone k (fun z => { z with abort := some (z.abort.getD s.event) })

/-! ## A place given (R185) -/

/-- The first of several waiting frames: longest waiting, then lowest index, then the order given. -/
def firstWaiting {α : Type} : List (Nat × Nat × α) → Option α
  | [] => none
  | (a, i, x) :: l =>
    match l.find? (fun e => decide (e.1 < a) || (decide (e.1 = a) && decide (e.2.1 < i))) with
    | none => some x
    | some _ => firstWaiting l

/-- A frame that waits with the regulator for the field port. -/
inductive TrainWait where
  | advice (slot : Nat) (f : Frame)
  | permit (slot : Nat) (f : Frame)
  | cell (platform : Nat)
  deriving DecidableEq, Repr

/-- The regulator's frames waiting for a queue of the field port. DESIGN CHOICE (log entry 18): of a slot's frame and a
platform's cell that wait since one event under one index number the slot's goes first, and of a slot's two frames the advice;
R185 does not order them. -/
def State.trainWaits (s : State) (q : Lane) : List (Nat × Nat × TrainWait) :=
  (List.range Config.slots).flatMap (fun t =>
    (match q, (s.slot t).advice with | .normal, some w => [(w.since, t, TrainWait.advice t w.frame)] | _, _ => []) ++
    (match (s.slot t).permit with | some w => [(w.since, t, TrainWait.permit t w.frame)] | none => [])) ++
  (match q with
   | .urgent => []
   | .normal => (List.range Config.platforms).flatMap (fun p =>
      match (s.plat p).cellSince with | some since => [(since, p, TrainWait.cell p)] | none => []))

/-- A place in a queue of the field port goes to the regulator. -/
def State.giveTrain (s : State) (q : Lane) : State :=
  match firstWaiting (s.trainWaits q) with
  | none => s
  | some (.advice t f) => (s.enqueue .field q f).modSlot t (fun sl => { sl with advice := none })
  | some (.permit t f) => (s.enqueue .field q f).modSlot t (fun sl => { sl with permit := none })
  | some (.cell p) => s.sendCell p

/-- The breaker orders that wait, with their feeders. -/
def State.orderWaits (s : State) : List (Nat × Nat × (Nat × Frame)) :=
  (List.range Config.feeders).flatMap (fun i =>
    match (s.feeder i).waiting with | some w => [(w.since, i, (i, w.frame))] | none => [])

/-- The queue that a waiting order joins when the power unit is given a place in `q`: the urgent queue while it has room
(R67: 'as soon as either queue has room, urgent first'; log entry 39). -/
def State.orderLane (s : State) (q : Lane) : Lane := if s.hasRoom .field .urgent then .urgent else q

/-- A place goes to the power unit: the order that has waited longest (R67, R185). -/
def State.giveOrder (s : State) (q : Lane) : State :=
  match firstWaiting s.orderWaits with
  | none => s
  | some (i, f) => (s.enqueue .field (s.orderLane q) f).modFeeder i (fun v => { v with waiting := none })

/-- What waits in a zone for a queue of the field port: `true` is the PA ABORT, which goes before any frame. -/
def State.zoneWaits (s : State) (q : Lane) : List (Nat × Nat × (Nat × Bool)) :=
  (List.range Config.zones).flatMap (fun k =>
    let z := s.zone k
    match z.abort, z.outstanding with
    | some since, _ => [(since, k, (k, true))]
    | none, some o =>
      if !o.queued && (decide (q = .normal) || z.urgentFrame) then [(o.since, k, (k, false))] else []
    | none, none => [])

/-- A place goes to the composer: the abort or frame that has waited longest (R143, R150). DESIGN CHOICE (log entry 23): a PA
ABORT that has waited since STOP OPERATION goes to the zone's PA unit of this moment, also when LOAD ZONE has given the zone
another address meanwhile; R137 and R157 are silent there. -/
def State.giveZone (s : State) (q : Lane) : State :=
  match firstWaiting (s.zoneWaits q) with
  | none => s
  | some (k, true) => (s.enqueue .field q (paAbort ((s.zone k).addr.getD 0) k)).modZone k (fun z => { z with abort := none })
  | some (k, false) => s.queueZoneFrame k q

/-- A place in the console port's normal queue goes to the regulator: the pending TRAIN NOTICE of the lowest slot first,
otherwise one CALL OUTCOMES telegram (R14, R49). -/
def State.giveTrainNotice (s : State) : State :=
  match (List.range Config.slots).find? (fun t => (s.trainNotice t).isSome) with
  | none => if s.outcomesDue then s.formOutcomes else s
  | some t => match s.trainNotice t with
    | none => s
    | some n => (s.enqueue .console .normal (n.frame t)).setTrainNotice t none

/-- The pending SECTION NOTICE of the lowest section, with the figures of this moment (R72). -/
def State.giveSectNotice (s : State) : State :=
  match (List.range Config.sections).find? (fun k => (s.sect k).notice.isSome) with
  | none => s
  | some k => match (s.sect k).notice with
    | none => s
    | some n => (s.enqueue .console .normal (n.frame k (s.sect k))).modSect k (fun v => { v with notice := none })

/-- The first pending slot in the notice order whose notice belongs to the queue (R108). -/
def State.giveIncNotice (s : State) (q : Lane) : State :=
  match s.inc.order.find? (fun i => match s.incNotice i with | none => false | some n => decide (n.lane = q)) with
  | none => s
  | some i => match s.incNotice i with
    | none => s
    | some n =>
      let s := (s.enqueue .console q n.frame).setIncNotice i none
      s.setInc { s.inc with order := s.inc.order.filter (fun j => decide (j ≠ i)) }

/-- The pending ZONE NOTICE of the lowest zone (R156). -/
def State.giveZoneNotice (s : State) : State :=
  match (List.range Config.zones).find? (fun k => (s.zone k).notice.isSome) with
  | none => s
  | some k => match (s.zone k).notice with
    | none => s
    | some n => (s.enqueue .console .normal (n.frame k)).modZone k (fun z => { z with notice := none })

/-- The reply in the hold (R184). -/
def State.giveReply (s : State) (q : Lane) : State :=
  match s.hnd.replyHold with
  | none => s
  | some f => (s.enqueue .console q f).setHnd { s.hnd with replyHold := none }

/-- The block queues one waiting frame on the queue it was given a place in, by its own rules (R185). -/
def State.give (s : State) (p : Port) (q : Lane) (b : Block) : State :=
  match p, b with
  | .field, .regulator => s.giveTrain q
  | .field, .powerUnit => s.giveOrder q
  | .field, .composer => s.giveZone q
  | .field, .timingUnit => s.queueLineTime
  | .console, .regulator => s.giveTrainNotice
  | .console, .powerUnit => s.giveSectNotice
  | .console, .incidentUnit => s.giveIncNotice q
  | .console, .composer => s.giveZoneNotice
  | .console, .requestHandler => s.giveReply q
  | .field, .incidentUnit | .field, .requestHandler | .console, .timingUnit => s

end Sys2Proof.Machine
end

