-- ==== Sys2Proof/Machine/Admission.lean ====
section
/-! DEFINITION. Start admission (chapter 4) and the grants it hands to the regulator (R35 to R38). -/

namespace Sys2Proof.Machine

/-! ## The admission test (R79) -/

/-- The three results of the admission test. -/
inductive Verdict where
  | full
  | reduced (amount : Nat)
  | waits
  deriving DecidableEq, Repr

/-- The admission test of R79: effective cap, reservation sum R, measured load M (clipped below at 0) and demand d. -/
def admissionTest (ceff reserved : Nat) (m : Int) (d : Nat) : Verdict :=
  let mclip := (max m 0).toNat
  if 0 < ceff ∧ mclip + reserved + d ≤ ceff then .full
  else if 0 < ceff ∧ reserved = 0 ∧ mclip + d > ceff ∧ mclip ≤ ceff ∧ d ≤ 2 * (ceff - mclip) then .reduced (ceff - mclip)
  else .waits

/-- The test applies only to a section that is ENERGISED with its measurement-lost flag clear (R79). -/
def Sect.open (v : Sect) : Bool := decide (v.st = .energised) && !v.measLost

/-! ## Grants (R36, R37, R80) -/

/-- The reservation of a grant (R80): the entry becomes RESERVED and R rises by the amount. -/
def State.reserve (s : State) (t k instant amount : Nat) (reduced : Bool) : State :=
  (s.setPool t (.reservation k instant amount (s.instant (s.now + 8 * (s.sect k).window)) reduced)).modSect k
    (fun v => { v with reserved := v.reserved + amount })

/-- A grant handed to the regulator (R36, R37). At a platform the slot goes to PERMITTED, the power wait and the reduced
flag go into the stay's record, and DEPART PERMIT is sent; between stations START GRANT is sent. While the slot's platform
is held no DEPART PERMIT is queued (R38): it waits with the slot, for R114 to discard (log entry 17). -/
def State.granted (s : State) (t k limit : Nat) (reduced : Bool) : State :=
  let sl := s.slot t
  match sl.platform with
  | some p =>
    let wait := match sl.relBase with | none => 0 | some rel => s.now - rel
    let s := s.modSlot t (fun sl => { sl with st := .permitted })
    let s := s.modStay t
      (fun r => { r with wait := wait, flags := { r.flags with reducedStart := r.flags.reducedStart || reduced } })
      (fun y => { y with wait := wait, reducedStart := y.reducedStart || reduced })
    let f := departPermit (sl.addr.getD 0) t sl.trip (s.plat p).display (s.plat p).sect limit reduced s.now
    if s.platHeld p then s.holdPermit t f else s.sendPermit t f
  | none =>
    (s.modSlot t (fun sl => { sl with st := .permitted })).sendPermit t
      (startGrant (sl.addr.getD 0) t sl.trip k limit reduced s.now)

/-! ## Re-evaluation (R81) -/

/-- One test of the head of the section's queue. `none` when nothing was granted. -/
def State.testHead (s : State) (k : Nat) : Option State :=
  let v := s.sect k
  if !v.open then none
  else match v.queue with
    | [] => none
    | t :: rest => match s.pool t with
      | .queued _ d instant _ => match admissionTest v.ceff v.reserved v.m d with
        | .waits => none
        | .full => some (((s.setSect k { v with queue := rest }).reserve t k instant d false).granted t k d false)
        | .reduced a => some (((s.setSect k { v with queue := rest }).reserve t k instant a true).granted t k a true)
      | _ => none

/-- At most `n` grants from the head of the queue, until a head fails or the queue is empty. -/
def State.grantHeads (k : Nat) : Nat → State → State
  | 0, s => s
  | n + 1, s => match s.testHead k with
    | none => s
    | some s' => State.grantHeads k n s'

/-- A re-evaluation of a section (R81). -/
def State.reevaluate (s : State) (k : Nat) : State := State.grantHeads k (s.sect k).queue.length s

/-! ## Releases and removals (R83 to R85) -/

/-- A reservation ends: the entry becomes free, R falls, the section is re-evaluated (R83, R84). -/
def State.endReservation (s : State) (t : Nat) : State :=
  match s.pool t with
  | .reservation k _ amount _ _ =>
    ((s.setPool t .free).modSect k (fun v => { v with reserved := v.reserved - amount })).reevaluate k
  | _ => s

/-- A queued request is removed: the slots behind it move up, and the section is re-evaluated if it was the head (R85). -/
def State.removeQueued (s : State) (t : Nat) : State :=
  match s.pool t with
  | .queued k _ _ _ =>
    let wasHead := decide ((s.sect k).queue.head? = some t)
    let s := (s.setPool t .free).modSect k (fun v => { v with queue := v.queue.filter (fun u => decide (u ≠ t)) })
    if wasHead then s.reevaluate k else s
  | _ => s

/-- Whatever the slot holds in the pool is given up (R4, R14). -/
def State.leavePool (s : State) (t : Nat) : State := (s.removeQueued t).endReservation t

/-- All reservations on a section are released together and R becomes 0 (R60, R84). -/
def State.releaseAll (s : State) (k : Nat) : State :=
  let held := indices Config.slots (fun t => match s.pool t with | .reservation k' _ _ _ _ => decide (k' = k) | _ => false)
  (held.foldl (fun s t => s.setPool t .free) s).modSect k (fun v => { v with reserved := 0 })

/-! ## Start requests (R78) -/

/-- A request joins the tail of the section's queue (R78 step 4). -/
def State.enqueueStart (s : State) (t k d : Nat) (rel : Option Nat) : State :=
  (s.setPool t (.queued k d s.now rel)).modSect k (fun v => { v with queue := v.queue ++ [t] })

/-- The request placed on its section (R78 steps 3 to 5): the answer is a traction limit and a reduced flag when
granted, `none` when queued. -/
def State.placeStart (s : State) (t k d : Nat) (rel : Option Nat) : State × Option (Nat × Bool) :=
  let v := s.sect k
  if v.open && v.queue.isEmpty then
    match admissionTest v.ceff v.reserved v.m d with
    | .full => (s.reserve t k s.now d false, some (d, false))
    | .reduced a => (s.reserve t k s.now a true, some (a, true))
    | .waits => (s.enqueueStart t k d rel, none)
  else (s.enqueueStart t k d rel, none)

/-- A start request (R78): a QUEUED entry is kept, a RESERVED one is released first, then the request is placed. -/
def State.requestStart (s : State) (t k d : Nat) (rel : Option Nat) : State × Option (Nat × Bool) :=
  match s.pool t with
  | .queued .. => (s, none)
  | .reservation .. => (s.endReservation t).placeStart t k d rel
  | .free => s.placeStart t k d rel

/-- The start request of a slot at platform `p` (R35): on the departure section, with the class demand and Rel. -/
def State.startAtPlatform (s : State) (t p rel : Nat) : State :=
  let k := (s.plat p).sect
  let d := s.demandOf (s.slot t).cls
  let s := s.modSlot t (fun sl => { sl with relBase := some rel })
  match s.requestStart t k d (some rel) with
  | (s, some (limit, reduced)) => s.granted t k limit reduced
  | (s, none) => s.modSlot t (fun sl => { sl with st := .waitingPower })

/-- The start request of a slot between stations on section `k` (R13, R35): it has no Rel. -/
def State.startBetween (s : State) (t k : Nat) : State :=
  match s.requestStart t k (s.demandOf (s.slot t).cls) none with
  | (s, some (limit, reduced)) => s.granted t k limit reduced
  | (s, none) => s.modSlot t (fun sl => { sl with st := .waitingPower })

/-- The stay's record is flagged INCIDENT HELD (R34, R114). -/
def State.flagIncidentHeld (s : State) (t : Nat) : State :=
  s.modStay t (fun r => { r with flags := { r.flags with incidentHeld := true } }) (fun y => { y with incidentHeld := true })

/-- The release instant `rel` of slot `t` at platform `p` is taken (R34). -/
def State.takeRelease (s : State) (t p rel : Nat) : State :=
  let s := s.modSlot t (fun sl => { sl with release := none })
  if s.platHeld p then
    (s.modSlot t (fun sl => { sl with st := .incidentHold, relBase := some rel })).flagIncidentHeld t
  else s.startAtPlatform t p rel

end Sys2Proof.Machine
end

