-- ==== Sys2Proof/Machine/Sections.lean ====
section
/-! DEFINITION. Traction sections (chapter 3): the median filter, the class of a section's breakers, a change of its state
with the consequences of R60, and isolation and energising up to the raising of incidents (in `Reports.lean`). -/

namespace Sys2Proof.Machine

/-! ## Measurement (R54, R55) -/

/-- The median of a feeder's history (R54): the larger of two readings, the middle one of three. -/
def medianOf : List Int → Int
  | [] => 0
  | [a] => a
  | [a, b] => max a b
  | a :: b :: c :: _ => max (min a b) (min (max a b) c)

/-- A reading is clamped, joins the history as the newest of at most three, and the median is set (R54). -/
def Feeder.reading (f : Feeder) (kw : Int) : Feeder :=
  let h := (if f.history.length < 3 then f.history else f.history.drop 1) ++ [clamp (-20000) 20000 kw]
  { f with history := h, median := medianOf h }

/-- The measured load of a section: the sum of the medians of its feeders, clamped (R55). -/
def State.measured (s : State) (k : Nat) : Int :=
  clamp (-32768) 32767 (((s.feedersOf k).map (fun i => (s.feeder i).median)).foldl (· + ·) 0)

/-- M is recomputed (R55). -/
def State.remeasure (s : State) (k : Nat) : State := s.modSect k (fun v => { v with m := s.measured k })

/-! ## Breakers (R57) -/

/-- The classes of a section's breakers (R57). -/
inductive Breakers where
  | allOpen | allClosed | mixed | incomplete
  deriving DecidableEq, Repr

/-- The class of a list of breaker states; a section with no loaded feeder is incomplete (R57). -/
def classify (l : List Breaker) : Breakers :=
  if l.isEmpty || l.any (fun b => decide (b = .unknown)) then .incomplete
  else if l.all (fun b => decide (b = .opened)) then .allOpen
  else if l.all (fun b => decide (b = .closed)) then .allClosed
  else .mixed

def State.breakers (s : State) (k : Nat) : Breakers := classify ((s.feedersOf k).map (fun i => (s.feeder i).breaker))

/-! ## Changes of state (R60, R67, R71) -/

/-- Switching is in progress (Table 3-2: attempt count and deadline are present only then). -/
def SectState.switching : SectState → Bool
  | .isolating | .energising => true
  | .unknown | .energised | .isolated | .tripped | .fault => false

/-- Every bound train slot whose current section is `k` has its no-traction flag set to `b` (R60). -/
def State.markTraction (s : State) (k : Nat) (b : Bool) : State :=
  (indices Config.slots (fun t => decide ((s.slot t).st ≠ .free) && decide ((s.slot t).sect = some k))).foldl
    (fun s t => s.modSlot t (fun sl => { sl with noTraction := b })) s

/-- The waiting orders of the section's feeders that satisfy `p` are discarded (R61, R64, R67). -/
def State.discardOrders (s : State) (k : Nat) (p : OrderKind → Bool) : State :=
  (s.feedersOf k).foldl (fun s i => s.modFeeder i (fun f =>
    { f with waiting := match f.waiting with | some w => if p w.kind then none else some w | none => none })) s

/-- The consequences of R60 for the start pool and the trains. The self-clear of kind 3 and the re-evaluation on entering
ENERGISED are the caller's (`State.energised`). -/
def State.traction (s : State) (k : Nat) (before st : SectState) : State :=
  if before = .energised ∧ st ≠ .energised then (s.releaseAll k).markTraction k true
  else if before ≠ .energised ∧ st = .energised then s.markTraction k false
  else s

/-- A section changes its state (R60, R67, R71): the attempt count and the deadline of the new state, the notice, the
waiting orders discarded on entering or leaving a switching state, and the consequences of R60. -/
def State.setSectState (s : State) (k : Nat) (st : SectState) (cause : SectCause) : State :=
  let before := (s.sect k).st
  let deadline := if st.switching then some (s.instant (s.now + Config.switchingLimit)) else none
  let s := s.modSect k (fun v => { v with st := st, attempts := if st.switching then 1 else 0, deadline := deadline })
  let s := if before.switching || st.switching then s.discardOrders k (fun _ => true) else s
  (s.sectDue k before cause).traction k before st

/-- An order for each of the section's feeders whose breaker is not recorded as `done` (R61, R62, R64). DESIGN CHOICE (log
entry 40): the feeders are ordered by ascending index; the rules give no order. -/
def State.orderAll (s : State) (k : Nat) (kind : OrderKind) (done : Option Breaker) : State :=
  ((s.feedersOf k).filter (fun i => decide (some (s.feeder i).breaker ≠ done))).foldl (fun s i => s.sendOrder kind i) s

/-- The attempts of an ISOLATING section restart (R61). -/
def State.restartIsolation (s : State) (k : Nat) : State :=
  let s := s.modSect k (fun v => { v with attempts := 1, deadline := some (s.instant (s.now + Config.switchingLimit)) })
  (s.discardOrders k (fun o => decide (o = .energise))).orderAll k .isolate none

/-- ISOLATING is entered (R61). -/
def State.isolating (s : State) (k : Nat) (cause : SectCause) : State :=
  (s.setSectState k .isolating cause).orderAll k .isolate none

/-- An isolation request (R61). DESIGN CHOICE (log entry 41): R52 says that a section with no loaded feeder stays UNKNOWN, and
R61 moves every UNKNOWN section; the model lets the request move a section with no feeder too, with no order to send. -/
def State.isolationRequest (s : State) (k : Nat) (cause : SectCause) : State :=
  match (s.sect k).st with
  | .isolated => s
  | st =>
    if s.breakers k = .allOpen then s.setSectState k .isolated cause
    else if st = .isolating then s.restartIsolation k
    else s.isolating k cause

/-- ENERGISING is entered (R64), also by a section with no loaded feeder (log entry 41). -/
def State.energising (s : State) (k : Nat) : State := (s.setSectState k .energising .ordered).orderAll k .energise none

end Sys2Proof.Machine
end

