-- ==== Sys2Proof/Machine/Composition.lean ====
section
/-! DEFINITION. Announcement composition (chapter 7): contexts, slot markers, numbers and the composed list. -/

namespace Sys2Proof.Machine

/-- The minutes-late figure of a lateness (R43). -/
def minutesLate : Option Int → Option Nat
  | none => none
  | some l => if l < 240 then none else some (min ((l + 240) / 480) 99).toNat

/-- The phrase codes of a number (R129). -/
def spoken (v : Nat) : List Nat :=
  if v < 20 then [4000 + v] else if v % 10 = 0 then [4020 + v / 10] else [4020 + v / 10, 4000 + v % 10]

/-- The context of a composition (R126): the platform, the context call's trip and destination, and the train. -/
structure Ctx where
  platform : Option Nat
  call : Option (Nat × Nat)
  train : Option Nat
  deriving DecidableEq, Repr

/-- The context platform: the zone's platform, if that is loaded (R126). -/
def State.ctxPlatform (s : State) (z : Zone) : Option Nat :=
  match z.platform with
  | none => none
  | some p => if (s.plat p).loaded then some p else none

/-- The trip and destination of the first PENDING or ACTIVE record of a platform (R126). -/
def Platform.ctxCall (pl : Platform) : Option (Nat × Nat) :=
  match pl.ring.find? CallRecord.live with
  | none => none
  | some r => some (r.trip, r.dest)

/-- The train of a context call (R126); for an armed entry the stored slot while it still carries the trip (R127). -/
def State.ctxTrain (s : State) (stored : Option Nat) (call : Option (Nat × Nat)) : Option Nat :=
  match call with
  | none => none
  | some (trip, _) => match stored with
    | some t => if (s.slot t).st ≠ .free ∧ (s.slot t).trip = trip then some t else s.boundTo trip
    | none => s.boundTo trip

/-- The context of an entry, read at its composition (R126, R127). -/
def State.context (s : State) (z : Zone) (e : QEntry) : Ctx :=
  let p := s.ctxPlatform z
  match e.arrival with
  | some a => { platform := p, call := a.call, train := s.ctxTrain (some a.slot) a.call }
  | none =>
    let call := match p with | none => none | some p => (s.plat p).ctxCall
    { platform := p, call := call, train := s.ctxTrain none call }

/-- The station at a location (R128). -/
def State.stationAt (s : State) (l : Location) : Option Nat :=
  match l.typ with
  | .station => some l.idx
  | .platform => if (s.plat l.idx).loaded then some (s.plat l.idx).station else none
  | .zone => if (s.zone l.idx).loaded then some (s.zone l.idx).station else none
  | .train => match (s.slot l.idx).platform with | none => none | some p => some (s.plat p).station
  | .sect | .substation | .line => none

/-- The name code of a station, nothing while it is not loaded (R123). -/
def State.nameOf (s : State) (station : Option Nat) : List Nat :=
  match station with
  | none => []
  | some n => (s.station n).toList

/-- An argument 0–99 as a number; 255 is absent (R130). -/
def argCodes (a : Nat) : List Nat := if a = 255 then [] else spoken a

/-- The expansion of a slot marker (R128, Table 7-1). -/
def State.expand (s : State) (z : Zone) (e : QEntry) (m : Marker) : List Nat :=
  let c := s.context z e
  match m with
  | .dest => match c.call with | none => [] | some (_, d) => s.nameOf (some d)
  | .platform => match c.platform with | none => [] | some p => spoken (s.plat p).display
  | .late => match c.train with
    | none => []
    | some t => match minutesLate (s.slot t).lateness with | none => [] | some n => spoken n
  | .next => match c.platform with
    | none => []
    | some p => match (s.plat p).cellNow with | [] => [] | l :: _ => spoken l.countdown
  | .place => match e.tag with | none => [] | some g => s.nameOf (s.stationAt g.loc)
  | .arg1 => argCodes e.arg1
  | .arg2 => argCodes e.arg2
  | .name => s.nameOf (some z.station)

/-- The codes of one element (R132). -/
def State.elementCodes (s : State) (z : Zone) (e : QEntry) : Element → List Nat
  | .code c => [c]
  | .marker m => s.expand z e m

/-- The composition of an entry (R132, R133): at most 48 codes, with the truncation flag when codes were cut off; a
template that is not loaded gives none. -/
def State.compose (s : State) (z : Zone) (e : QEntry) : Buffer :=
  match s.template e.template with
  | none => {}
  | some elements =>
    let all := elements.flatMap (s.elementCodes z e)
    { codes := all.take Config.bufferCap, trunc := decide (Config.bufferCap < all.length) }

end Sys2Proof.Machine
end

