-- ==== Sys2Proof/Machine/ZoneOps.lean ====
section
/-! DEFINITION. What a zone does (chapter 8): selection, suspension, locks, entries offered to it. -/

namespace Sys2Proof.Machine

/-! ## Entries -/

/-- The first entry of a queue that satisfies `p`, replaced by `f` of it. -/
def modFirst (p : QEntry → Bool) (f : QEntry → QEntry) : List QEntry → List QEntry
  | [] => []
  | e :: l => if p e then f e :: l else e :: modFirst p f l

/-- A queue without the first entry that satisfies `p`. -/
def removeFirst (p : QEntry → Bool) : List QEntry → List QEntry
  | [] => []
  | e :: l => if p e then l else e :: removeFirst p l

def QEntry.isPlaying (e : QEntry) : Bool := decide (e.st = .playing)
def QEntry.isSuspended (e : QEntry) : Bool := decide (e.st = .suspended)
def QEntry.isQueued (e : QEntry) : Bool := decide (e.st = .queued)

/-- The SUSPENDED entry of a zone (R138). -/
def Zone.suspended (z : Zone) : Option QEntry := z.queue.find? QEntry.isSuspended

/-- An entry is eligible under the zone's lock (R142). -/
def QEntry.eligible (e : QEntry) : Lock → Bool
  | .unlocked => true
  | .console _ => decide (e.cls = 4)
  | .incident n => decide (e.cls = 4) || decide (e.tag.map IncTag.number = some n)

/-- The eligible QUEUED and SUSPENDED entries, in enqueue order (R142). -/
def Zone.candidates (z : Zone) : List QEntry := z.queue.filter (fun e => !e.isPlaying && e.eligible z.lock)

/-- The entry of the highest class, the earliest among equals (R142 step 2). -/
def bestOf (l : List QEntry) : Option QEntry :=
  l.find? (fun e => decide (e.cls = greatest (l.map QEntry.cls)))

/-- A candidate outranks the PLAYING entry (R149). -/
def Zone.outranked (z : Zone) (playing : QEntry) : Bool := z.candidates.any (fun e => decide (playing.cls < e.cls))

/-- Two tags are the same when both are absent or carry the same incident number; an entry is a duplicate of another with
the same template, arguments and tag (R139). -/
def QEntry.duplicates (a b : QEntry) : Bool :=
  decide (a.template = b.template) && decide (a.arg1 = b.arg1) && decide (a.arg2 = b.arg2) &&
  decide (a.tag.map IncTag.number = b.tag.map IncTag.number)

/-! ## Suspension (R148) -/

/-- The frame index at which the PLAYING entry stands: the outstanding frame's, or 0 of the next play in a repetition gap
(R150, R151). -/
def Zone.currentIdx (z : Zone) : Nat := match z.outstanding with | none => 0 | some o => o.idx

/-- The PLAYING entry is suspended at frame index `idx` (R148). Any entry SUSPENDED before loses the slot. -/
def State.suspend (s : State) (k idx : Nat) : State :=
  s.modZone k (fun z => { z with
    queue := z.queue.map (fun e => match e.st with
      | .suspended => { e with st := .queued }
      | .playing => { e with st := .suspended, savedIdx := idx, suspended := s.now }
      | .queued => e),
    suspBuf := z.playBuf, playBuf := {}, outstanding := none, deadline := none, gapEnd := none, expiryRun := 0 })

/-! ## Selection (R142) -/

/-- Step 1: a SUSPENDED ROUTINE entry more than 960 eighths after its suspension is discarded as stale. -/
def State.dropStale (s : State) (k : Nat) : State :=
  match (s.zone k).suspended with
  | none => s
  | some e =>
    if e.cls = 1 ∧ e.suspended + 960 < s.now then
      (s.modZone k (fun z => { z with queue := removeFirst QEntry.isSuspended z.queue, suspBuf := {} })).entryDue k .stale e
    else s

/-- What one round of selection did. -/
inductive Selection where
  /-- No entry is eligible, or the chosen one has started. -/
  | ended (s : State)
  /-- The chosen entry composed to an empty list and failed (R133): selection is made again. -/
  | again (s : State)
  deriving Repr

/-- The zone's outstanding frame is the first of an entry that selection found like this (R142). -/
def State.markStart (s : State) (k : Nat) (found : Start) : State :=
  s.modZone k (fun z => { z with outstanding := z.outstanding.map (fun o => { o with start := some found }) })

/-- The chosen entry becomes PLAYING with the next entry tag and sends the frame `idx` (R142 steps 3 and 4). -/
def State.begin (s : State) (k : Nat) (chosen : QEntry → Bool) (idx : Nat) (found : Start) : State :=
  let tag := (s.zone k).tagCounter
  let s := s.modZone k (fun z => { z with
    queue := modFirst chosen (fun e => { e with st := .playing, entryTag := tag }) z.queue,
    tagCounter := if tag = 255 then 1 else tag + 1 })
  (s.sendFrame k idx tag 0).markStart k found

/-- The chosen entry is composed into the playing buffer and begins at frame 0, or fails when the list is empty (R131 to
R133). The suspended buffer of an entry that restarts is emptied. -/
def State.startComposed (s : State) (k : Nat) (e : QEntry) : Selection :=
  let z := s.zone k
  let b := s.compose z e
  let noted : QEntry → QEntry := fun x => { x with lastCount := b.codes.length, lastTrunc := b.trunc }
  let chosen : QEntry → Bool := fun x => decide (x = e)
  let susp := if e.isSuspended then {} else z.suspBuf
  if b.codes.isEmpty then
    .again ((s.setZone k { z with queue := removeFirst chosen z.queue, playBuf := {}, suspBuf := susp }).entryDue k .failedEmpty
      (noted e))
  else
    let s := s.setZone k { z with queue := modFirst chosen noted z.queue, playBuf := b, suspBuf := susp }
    .ended (s.begin k (fun x => decide (x = noted e)) 0 { entry := e, suspBuf := z.suspBuf })

/-- One round of selection (R142) by a zone with no PLAYING entry. -/
def State.selectRound (s : State) (k : Nat) : Selection :=
  let s := s.dropStale k
  let z := s.zone k
  match bestOf z.candidates with
  | none => .ended s
  | some e =>
    if e.isSuspended && decide (s.now ≤ e.suspended + 480) then
      let s := s.setZone k { z with playBuf := z.suspBuf, suspBuf := {} }
      .ended (s.begin k (fun x => decide (x = e)) e.savedIdx { entry := e, suspBuf := z.suspBuf })
    else s.startComposed k e

/-- Rounds of selection until one ends; each round that does not end removes an entry. -/
def State.selectRounds (k : Nat) : Nat → State → State
  | 0, s => s
  | n + 1, s => match s.selectRound k with
    | .ended s' => s'
    | .again s' => State.selectRounds k n s'

/-- Selection by an IDLE zone (R142); any other zone does nothing. -/
def State.select (s : State) (k : Nat) : State :=
  if (s.zone k).st = .idle then State.selectRounds k ((s.zone k).queue.length + 1) s else s

/-- The zone becomes IDLE and selects (R142). -/
def State.idleSelect (s : State) (k : Nat) : State := (s.modZone k (fun z => { z with st := .idle })).select k

/-! ## The PLAYING entry is interrupted or ends -/

/-- A PA ABORT is sent if the zone is SENDING and its outstanding frame has been queued (R150, R153, R157). -/
def State.abortIfQueued (s : State) (k : Nat) : State :=
  match (s.zone k).st, (s.zone k).outstanding with
  | .sending, some o => if o.queued then s.sendAbort k else s
  | _, _ => s

/-- The PLAYING entry is suspended at its current frame index with a PA ABORT, and the zone selects (R150, R153). -/
def State.interrupt (s : State) (k : Nat) : State :=
  let s := s.abortIfQueued k
  (s.suspend k (s.zone k).currentIdx).idleSelect k

/-- The PLAYING entry leaves the queue with a notice; its buffer, frame and deadline are gone (R145 to R147). -/
def State.endPlaying (s : State) (k : Nat) (reason : ZoneReason) : State :=
  match (s.zone k).playing with
  | none => s
  | some e =>
    (s.modZone k (fun z => { z with
      queue := removeFirst QEntry.isPlaying z.queue, playBuf := {}, outstanding := none, deadline := none,
      gapEnd := none, expiryRun := 0 })).entryDue k reason e

/-- A play has ended (R147): another follows after a gap of 16 eighths, or the entry is done. DESIGN CHOICE (log entry 37): a
gap end that would lie beyond the last line time is taken as 1,048,575, which bounds every stored instant (3.1); R147 does
not say so. -/
def State.endPlay (s : State) (k : Nat) : State :=
  match (s.zone k).playing with
  | none => s
  | some e =>
    let s := s.modZone k (fun z => { z with queue := modFirst QEntry.isPlaying (fun e => { e with plays := e.plays + 1 }) z.queue })
    if e.plays + 1 < e.repeats then
      s.modZone k (fun z => { z with st := .gap, gapEnd := some (s.instant (s.now + 16)) })
    else (s.endPlaying k .done).idleSelect k

/-! ## Entries offered (R139, R140) -/

/-- What became of an offered entry (R141). -/
inductive OfferResult where
  | queued | merged | busy
  deriving DecidableEq, Repr

def OfferResult.code : OfferResult → Nat
  | .queued => 0 | .merged => 1 | .busy => 2

/-- The PLAYING entry stands at the boundary of a FRAME DONE taken at this line time: that FRAME DONE and an EMERGENCY entry
then fall together (R155, log entry 38). -/
def State.atBoundary (s : State) (k : Nat) : Bool :=
  match (s.zone k).st, (s.zone k).outstanding with
  | .sending, some o => decide (o.boundary = some s.now)
  | _, _ => false

/-- An entry as selection found it: its state, tag and composition are those of before its start. -/
def QEntry.unstarted (e found : QEntry) : QEntry :=
  { e with st := if found.isSuspended then .suspended else .queued, entryTag := found.entryTag,
           lastCount := found.lastCount, lastTrunc := found.lastTrunc }

/-- The tag that the next entry takes once the start that sent the outstanding frame is undone: a frame that was never queued
gives its tag back, and a queued one, which is transmitted all the same (R183), has used it (R155, log entry 38). -/
def Zone.tagAfterUndo (z : Zone) : Nat := match z.outstanding with
  | none => z.tagCounter
  | some o => if o.queued then z.tagCounter else o.tag

/-- The start that sent the zone's outstanding frame is undone: the entry stands as selection found it, with the suspended
buffer of that moment (R155, log entry 38). -/
def State.undoStart (s : State) (k : Nat) (found : Start) : State :=
  s.modZone k (fun z => { z with
    queue := modFirst QEntry.isPlaying (fun e => e.unstarted found.entry) z.queue
    tagCounter := z.tagAfterUndo
    playBuf := {}, suspBuf := found.suspBuf, outstanding := none, deadline := none, gapEnd := none, expiryRun := 0 })

/-- The boundary of a FRAME DONE as R149 leaves it: an entry that the FRAME DONE started has not started, and any other
PLAYING entry is suspended at the frame that followed. That frame is no longer outstanding; if it was queued it keeps its
place and is transmitted (R183), and if it waited for room it is discarded (R148 step 3). -/
def State.backToBoundary (s : State) (k : Nat) : State :=
  match (s.zone k).outstanding.bind Outstanding.start with
  | none => s.suspend k (s.zone k).currentIdx
  | some found => s.undoStart k found

/-- The PLAYING entry is preempted by an EMERGENCY entry: with a PA ABORT at the frame in flight (R150), or, at the boundary
of a FRAME DONE that falls together with it, with none (R149, R155). -/
def State.preempt (s : State) (k : Nat) : State :=
  if s.atBoundary k then (s.backToBoundary k).idleSelect k else s.interrupt k

/-- An entry joins at the end of the enqueue order; an IDLE zone selects, an EMERGENCY entry preempts a lower class
(R139, R150). -/
def State.joinZone (s : State) (k : Nat) (e : QEntry) : State :=
  let s := s.modZone k (fun z => { z with queue := z.queue ++ [e] })
  match (s.zone k).st with
  | .idle => s.select k
  | .fault => s
  | .sending | .gap => match (s.zone k).playing with
    | none => s
    | some p => if e.cls = 4 ∧ p.cls < 4 then s.preempt k else s

/-- The zone-drop counter rises (R140). -/
def State.countDrop (s : State) : State := s.setCom { s.com with zoneDrops := satSucc Config.counterMax s.com.zoneDrops }

/-- The smallest class among the QUEUED entries (R140). -/
def Zone.lowestClass (z : Zone) : Nat := ((leastOf ((z.queue.filter QEntry.isQueued).map QEntry.cls)).getD 0)

/-- The most recently enqueued QUEUED entry of the lowest class (R140). -/
def Zone.evictee (z : Zone) : Option QEntry :=
  (z.queue.reverse.find? (fun e => e.isQueued && decide (e.cls = z.lowestClass)))

/-- A queue without its last entry that satisfies `p`. -/
def removeLast (p : QEntry → Bool) (l : List QEntry) : List QEntry := (removeFirst p l.reverse).reverse

/-- A full queue takes no entry of this class: BUSY for a console, dropped with a notice for the part (R140, R141). -/
def State.notTaken (s : State) (k : Nat) (e : QEntry) : State × OfferResult :=
  match e.origin with
  | .console _ => (s, .busy)
  | .incident _ | .platform _ => ((s.entryDue k .droppedFull e).countDrop, .busy)

/-- An entry offered to a zone (R139, R140): merged into a duplicate, joined, joined in place of an evicted entry, or not
taken. An entry made by the part that is not taken is dropped with a notice. -/
def State.offer (s : State) (k : Nat) (e : QEntry) : State × OfferResult :=
  let z := s.zone k
  if z.queue.any (fun x => x.duplicates e) then
    (s.setZone k { z with queue := modFirst (fun x => x.duplicates e) (fun x => { x with repeats := max x.repeats e.repeats }) z.queue },
     .merged)
  else if z.queue.length < Config.zoneCap then (s.joinZone k e, .queued)
  else match z.evictee with
    | some v =>
      if z.lowestClass < e.cls then
        (((s.setZone k { z with queue := removeLast (fun x => x.isQueued && decide (x.cls = z.lowestClass)) z.queue }).entryDue k
          .droppedEvicted v).countDrop.joinZone k e, .queued)
      else s.notTaken k e
    | none => s.notTaken k e
/-- An entry made by the part, for a zone that is loaded (R137: for any other it is not made). -/
def State.offerOwn (s : State) (k : Nat) (e : QEntry) : State := if (s.zone k).loaded then (s.offer k e).1 else s

/-! ## Locks (R119, R152, R153) -/

/-- A lock is taken: a PLAYING entry that is not eligible under it is suspended at once; an IDLE zone selects (R153). -/
def State.takeLock (s : State) (k : Nat) (l : Lock) : State :=
  let s := s.modZone k (fun z => { z with lock := l, lockInstant := s.now })
  match (s.zone k).playing with
  | none => s.select k
  | some e => if e.eligible l then s else s.interrupt k

/-- A lock is released with a notice, and an IDLE zone selects (R152). -/
def State.releaseLock (s : State) (k : Nat) (reason : ZoneReason) : State :=
  let holder := (s.zone k).lock
  ((s.modZone k (fun z => { z with lock := .unlocked })).unlockDue k reason holder).select k

/-- An ANNOUNCE effect with the lock flag locks each of its zones that is unlocked (R119). -/
def State.lockToIncident (s : State) (number k : Nat) : State :=
  if (s.zone k).loaded ∧ (s.zone k).lock = .unlocked then s.takeLock k (.incident number) else s

end Sys2Proof.Machine
end

