-- ==== Sys2Proof/Machine/Incidents.lean ====
section
/-! DEFINITION. The incident unit: targets (R97 to R100), effective values and what is handed over when they change
(R110 to R121), raising, clearing, self-clearing, acknowledging, escalating and freeing (R92 to R106). -/

namespace Sys2Proof.Machine

/-! ## Targets (R97 to R100) -/

/-- LOCATION SECTION (R98): the sections before sorting and cutting. -/
def State.locationSections (s : State) (l : Location) : List Nat :=
  match l.typ with
  | .sect => [l.idx]
  | .train => if (s.slot l.idx).st = .free then [] else (s.slot l.idx).sect.toList
  | .platform => if (s.plat l.idx).loaded then [(s.plat l.idx).sect] else []
  | .station => (s.loadedPlatforms.filter (fun p => decide ((s.plat p).station = l.idx))).map (fun p => (s.plat p).sect)
  | .substation =>
    (indices Config.feeders (fun i => (s.feeder i).loaded && decide ((s.feeder i).substation = l.idx))).map
      (fun i => (s.feeder i).sect)
  | .zone => match (s.zone l.idx).loaded, (s.zone l.idx).platform with
    | true, some p => if (s.plat p).loaded then [(s.plat p).sect] else []
    | _, _ => []
  | .line => []

/-- The loaded platforms whose departure section is `k`. -/
def State.departingInto (s : State) (k : Nat) : List Nat := s.loadedPlatforms.filter (fun p => decide ((s.plat p).sect = k))

/-- LOCATION PLATFORMS (R99). -/
def State.locationPlatforms (s : State) (l : Location) : List Nat :=
  match l.typ with
  | .sect => s.departingInto l.idx
  | .train =>
    if (s.slot l.idx).st = .free then []
    else match (s.slot l.idx).platform, (s.slot l.idx).sect with
      | some p, _ => [p]
      | none, some k => s.departingInto k
      | none, none => []
  | .platform => [l.idx]
  | .station => s.loadedPlatforms.filter (fun p => decide ((s.plat p).station = l.idx))
  | .substation => s.loadedPlatforms.filter (fun p =>
      (s.feedersOf (s.plat p).sect).any (fun i => decide ((s.feeder i).substation = l.idx)))
  | .zone => if (s.zone l.idx).loaded then (s.zone l.idx).platform.toList else []
  | .line => []

/-- LOCATION ZONES (R100): the zones of the platforms, with the exceptions for ZONE and STATION locations. -/
def State.locationZones (s : State) (l : Location) : List Nat :=
  match l.typ with
  | .zone => [l.idx]
  | typ =>
    ((s.locationPlatforms l).filter (fun p => (s.plat p).loaded)).flatMap (fun p => (s.plat p).zones) ++
    (if typ = .station then
      s.loadedZones.filter (fun k => decide ((s.zone k).station = l.idx) && decide ((s.zone k).platform = none))
     else [])

/-- What an effect type targets (R89). -/
inductive TargetType where
  | sections | platforms | zones
  deriving DecidableEq, Repr

def EffectType.target : EffectType → TargetType
  | .isolate | .cap _ => .sections
  | .hold | .headway => .platforms
  | .announce .. => .zones

/-- The index range of a target type (R89). -/
def TargetType.count : TargetType → Nat
  | .sections => Config.sections
  | .platforms => Config.platforms
  | .zones => Config.zones

/-- The target is loaded (R97). -/
def State.targetLoaded (s : State) : TargetType → Nat → Bool
  | .sections, k => decide (k < Config.sections) && (s.sect k).loaded
  | .platforms, p => decide (p < Config.platforms) && (s.plat p).loaded
  | .zones, k => decide (k < Config.zones) && (s.zone k).loaded

/-- The indices a selector yields at a location, before R97 sorts and cuts them. -/
def State.select0 (s : State) (l : Location) (t : TargetType) : Selector → List Nat
  | .locationSection => s.locationSections l
  | .locationPlatforms => s.locationPlatforms l
  | .locationZones => s.locationZones l
  | .explicit first last => indices t.count (fun i => decide (first ≤ i) && decide (i ≤ last))

/-- A target list: the loaded ones, ascending, the first 8 (R97). -/
def State.targets (s : State) (l : Location) (t : TargetType) (sel : Selector) : List Nat :=
  (sortAsc ((s.select0 l t sel).filter (s.targetLoaded t))).take 8

/-- The effect records of an incident (R97): empty sets are dropped, at most 6 are stored. -/
def State.resolve (s : State) (l : Location) (ts : List EffectTemplate) : List Effect :=
  ((ts.map (fun t => ({ typ := t.typ, targets := s.targets l t.typ.target t.sel } : Effect))).filter
    (fun e => !e.targets.isEmpty)).take 6

/-! ## Effective values (R110, Table 6-1) -/

/-- The effects of the ACTIVE incidents. -/
def IncidentUnit.activeEffects (u : IncidentUnit) : List Effect :=
  (List.range Config.entries).flatMap (fun i => match Tab.get none u.entries i with
    | some v => if v.active then v.effects else []
    | none => [])

/-- An ISOLATE effect on section `k`. -/
def Effect.isolates (e : Effect) (k : Nat) : Bool :=
  match e.typ with | .isolate => e.targets.contains k | _ => false
/-- A HOLD effect on platform `p`. -/
def Effect.holds (e : Effect) (p : Nat) : Bool :=
  match e.typ with | .hold => e.targets.contains p | _ => false
/-- A HEADWAY effect on platform `p`. -/
def Effect.headways (e : Effect) (p : Nat) : Bool :=
  match e.typ with | .headway => e.targets.contains p | _ => false
/-- The fraction of a CAP effect on section `k`; 8 of any other effect. -/
def Effect.capOn (e : Effect) (k : Nat) : Nat :=
  match e.typ with | .cap f => if e.targets.contains k then f else 8 | _ => 8

/-- The smallest CAP fraction on section `k`, 8 when there is none. -/
def smallestCap (es : List Effect) (k : Nat) : Nat := es.foldr (fun e f => min (e.capOn k) f) 8

/-- The effective values derived from a list of effects. -/
def IncidentUnit.derive (u : IncidentUnit) (es : List Effect) : IncidentUnit :=
  { u with interlock := Tab.ofFn false Config.sections (fun k => es.any (fun e => e.isolates k)),
           fraction := Tab.ofFn 8 Config.sections (smallestCap es),
           held := Tab.ofFn false Config.platforms (fun p => es.any (fun e => e.holds p)),
           headway := Tab.ofFn false Config.platforms (fun p => es.any (fun e => e.headways p)) }

/-- The effective values are recomputed (R111). -/
def State.recomputeEffects (s : State) : State := s.setInc (s.inc.derive s.inc.activeEffects)

/-! ## What is handed over -/

/-- A hold begins at `p` for slot `t` (Table 6-2). -/
def State.holdBeginsFor (p : Nat) (s : State) (t : Nat) : State :=
  if (s.slot t).atPlatform p then
    match (s.slot t).st with
    | .waitingPower => ((s.removeQueued t).modSlot t (fun sl => { sl with st := .incidentHold })).flagIncidentHeld t
    | .permitted =>
      if (s.slot t).permit.isSome then
        let s := s.modSlot t (fun sl => { sl with st := .incidentHold, permit := none })
        let s := s.modStay t
          (fun r => { r with flags := { r.flags with reducedStart := false, incidentHeld := true } })
          (fun y => { y with reducedStart := false, incidentHeld := true })
        s.endReservation t
      else s
    | _ => s
  else s

/-- A platform becomes held (R114). -/
def State.holdBegins (s : State) (p : Nat) : State := (List.range Config.slots).foldl (State.holdBeginsFor p) s

/-- A hold lifts at `p` for slot `t` (R115). -/
def State.holdLiftsFor (p : Nat) (s : State) (t : Nat) : State :=
  if (s.slot t).atPlatform p && decide ((s.slot t).st = .incidentHold) then
    s.startAtPlatform t p ((s.slot t).relBase.getD s.now)
  else s

/-- A platform's hold lifts (R115). -/
def State.holdLifts (s : State) (p : Nat) : State := (List.range Config.slots).foldl (State.holdLiftsFor p) s

/-- The interlock of a section begins (R112). -/
def State.interlockBegins (s : State) (k : Nat) : State :=
  match (s.sect k).st with
  | .energised | .energising | .tripped => s.isolationRequest k .interlock
  | .fault => if s.breakers k = .allClosed then s.isolationRequest k .interlock else s
  | .unknown | .isolating | .isolated => s

/-- The effective cap of a section is recomputed, and the section is re-evaluated if it has changed (R77, R113). -/
def State.recap (s : State) (k : Nat) : State :=
  let c := (s.sect k).cap * s.fraction k / 8
  if c = (s.sect k).ceff then s else (s.modSect k (fun v => { v with ceff := c })).reevaluate k

/-- The entry that an ANNOUNCE effect makes (R118). -/
def announceEntry (v : Incident) (template cls repeats : Nat) : QEntry :=
  { template := template, cls := cls, repeats := repeats, arg1 := 255, arg2 := 255, origin := .incident v.number,
    tag := some { number := v.number, loc := v.loc } }

/-- The lock of an ANNOUNCE effect, zone by zone (R119). -/
def State.lockEffect (s : State) (v : Incident) (e : Effect) : State :=
  match e.typ with
  | .announce _ _ _ true => e.targets.foldl (fun s k => s.lockToIncident v.number k) s
  | _ => s

/-- One ANNOUNCE effect: its locks, then its entries (R118, R119). -/
def State.announceEffect (v : Incident) (s : State) (e : Effect) : State :=
  match e.typ with
  | .announce template cls repeats _ =>
    e.targets.foldl (fun s k => s.offerOwn k (announceEntry v template cls repeats)) (s.lockEffect v e)
  | _ => s

/-- The changes at a raise, in the order of R111; `before` is the state before the recomputation. -/
def State.handRaise (s before : State) (v : Incident) : State :=
  let newlyHeld := indices Config.platforms (fun p => s.platHeld p && !before.platHeld p)
  let newlyLocked := indices Config.sections (fun k => s.interlocked k && !before.interlocked k)
  let capped := indices Config.sections (fun k => decide (s.fraction k ≠ before.fraction k))
  let s := newlyHeld.foldl State.holdBegins s
  let s := newlyLocked.foldl State.interlockBegins s
  let s := capped.foldl State.recap s
  v.effects.foldl (State.announceEffect v) s

/-- An entry is a QUEUED entry with this incident's tag (R120). -/
def QEntry.withdrawn (n : Nat) (e : QEntry) : Bool := e.isQueued && decide (e.tag.map IncTag.number = some n)

/-- The composer withdraws an incident's entries from a zone and releases its lock (R120). -/
def State.withdrawFrom (n : Nat) (s : State) (k : Nat) : State :=
  let s := if (s.zone k).queue.any (QEntry.withdrawn n) then
      s.modZone k (fun z => { z with queue := z.queue.filter (fun e => !e.withdrawn n) }) else s
  if (s.zone k).lock = .incident n then s.releaseLock k .unlockedCleared else s

/-- The zones of a clearance announcement (R121). -/
def State.clearanceZones (s : State) (v : Incident) : List Nat :=
  let announced := v.effects.filter (fun e => decide (e.typ.target = .zones))
  if announced.isEmpty then s.targets v.loc .zones .locationZones
  else sortAsc (announced.flatMap Effect.targets)

/-- The clearance announcement (R121). -/
def State.announceClear (s : State) (v : Incident) : State :=
  match (s.kind v.kind).clearance with
  | none => s
  | some (template, cls) => (s.clearanceZones v).foldl (fun s k => s.offerOwn k (announceEntry v template cls 1)) s

/-- The changes at a clear, in the order of R111. While CONFIGURING the composer is handed nothing (R121). -/
def State.handClear (s before : State) (v : Incident) : State :=
  let capped := indices Config.sections (fun k => decide (s.fraction k ≠ before.fraction k))
  let lifted := indices Config.platforms (fun p => before.platHeld p && !s.platHeld p)
  let s := if s.running then (List.range Config.zones).foldl (State.withdrawFrom v.number) s else s
  let s := capped.foldl State.recap s
  let s := lifted.foldl State.holdLifts s
  if s.running then s.announceClear v else s

/-! ## Entries (R91, R92, R106) -/

/-- A number is carried by an entry in use. -/
def State.numberInUse (s : State) (n : Nat) : Bool :=
  (List.range Config.entries).any (fun i => match s.incident i with | some v => decide (v.number = n) | none => false)

/-- The entry that carries a number (R92). -/
def State.entryOf (s : State) (n : Nat) : Option Nat :=
  (List.range Config.entries).find? (fun i => match s.incident i with | some v => decide (v.number = n) | none => false)

/-- The successor of an incident number (R92). -/
def nextNumber (n : Nat) : Nat := if n = 65535 then 1 else n + 1

/-- The first number from the counter on that no entry in use carries; 64 entries carry at most 64 (R92). DESIGN CHOICE (log
entry 36): R92 does not say when a number in use is passed over; the model tests when the next entry takes its number, so a
number that has been freed by then is given. -/
def State.freshNumber (s : State) : Nat → Nat → Nat
  | 0, n => n
  | fuel + 1, n => if s.numberInUse n then s.freshNumber fuel (nextNumber n) else n

/-- An entry becomes free and leaves the cleared list (R106). -/
def State.freeEntry (s : State) (i : Nat) : State :=
  let s := s.setIncident i none
  s.setInc { s.inc with cleared := s.inc.cleared.filter (fun j => decide (j ≠ i)) }

/-- The lowest free entry (R94). -/
def State.freeIncident (s : State) : Option Nat := (List.range Config.entries).find? (fun i => (s.incident i).isNone)

/-- The entry for a new incident (R94): a free one, or the oldest CLEARED-UNACK one, freed with its FREED notice. -/
def State.takeEntry (s : State) : Option (State × Nat) :=
  match s.freeIncident with
  | some i => some (s, i)
  | none => match s.inc.cleared with
    | [] => none
    | i :: _ => match s.incident i with
      | none => none
      | some v => some ((s.freeEntry i).incDue i (v.notice none .freed), i)

/-! ## Raising (R93 to R95) -/

/-- The outcome of a raise: the entry that stands for it, or a full table. -/
inductive RaiseResult where
  | raised (entry : Nat)
  | merged (entry : Nat)
  | full
  deriving DecidableEq, Repr

/-- The ACTIVE incident of a kind at a location (R93). -/
def State.openIncident (s : State) (kind : Nat) (loc : Location) : Option Nat :=
  (List.range Config.entries).find? (fun i => match s.incident i with
    | some v => v.active && decide (v.kind = kind) && decide (v.loc = loc)
    | none => false)

/-- The acknowledgement deadline of a kind, from now (R93, R95, R102). -/
def State.ackDeadline (s : State) (kind : Nat) : Nat := s.instant (s.now + 8 * (s.kind kind).ackLimit)

/-- An incident into which a raise of this severity is merged (R93). -/
def Incident.merge (v : Incident) (severity deadline : Nat) : Incident :=
  let v := { v with occurrences := satSucc 255 v.occurrences, severity := max v.severity severity }
  match v.st with
  | .activeAck => { v with st := .activeUnack, ackBy := none, deadline := some deadline }
  | .activeUnack | .clearedUnack => v

/-- A raise (R93 to R95), with its optional severity and its own effect templates. -/
def State.raiseIncident (s : State) (kind : Nat) (loc : Location) (raiser : Raiser) (severity : Option Nat)
    (templates : List EffectTemplate) : State × RaiseResult :=
  let sev := severity.getD (s.kind kind).severity
  match s.openIncident kind loc with
  | some i => match s.incident i with
    | none => (s, .full)
    | some v =>
      let w := v.merge sev (s.ackDeadline kind)
      ((s.setIncident i (some w)).incDue i (w.notice (some w.st) .merged), .merged i)
  | none => match s.takeEntry with
    | none => (s, .full)
    | some (s, i) =>
      let n := s.freshNumber (Config.entries + 1) s.inc.nextNumber
      let v : Incident :=
        { number := n, kind := kind, loc := loc, severity := sev, st := .activeUnack, raiser := raiser, raised := s.now,
          deadline := some (s.ackDeadline kind), occurrences := 1, ackBy := none,
          effects := s.resolve loc ((s.kind kind).templates ++ templates) }
      let before := s
      let s := s.setIncident i (some v)
      let s := (s.setInc { s.inc with nextNumber := nextNumber n }).recomputeEffects
      ((s.handRaise before v).incDue i (v.notice (some v.st) .raised), .raised i)

/-- A raise by a block of the part (R94): dropped and counted when the table is full. -/
def State.raiseOwn (s : State) (kind : Nat) (loc : Location) (raiser : Raiser) : State :=
  match s.raiseIncident kind loc raiser none [] with
  | (s, .full) => s.setInc { s.inc with overflow := satSucc Config.counterMax s.inc.overflow }
  | (s, .raised _) => s
  | (s, .merged _) => s

/-! ## Clearing (R103, R105) -/

/-- The clearing of entry `i`, ACTIVE as `v` (R103). -/
def State.clearEntry (s : State) (i : Nat) (v : Incident) : State :=
  let before := s
  let st : Option IncState := if v.st = .activeAck then none else some .clearedUnack
  let s := match st with
    | none => s.freeEntry i
    | some st =>
      let s := s.setIncident i (some { v with st := st, deadline := none })
      s.setInc { s.inc with cleared := s.inc.cleared ++ [i] }
  ((s.recomputeEffects).handClear before v).incDue i (v.notice st .cleared)

/-- A self-clear of a kind at a location (R105). -/
def State.selfClear (s : State) (kind : Nat) (loc : Location) : State :=
  if (s.kind kind).selfClearing then
    match s.openIncident kind loc with
    | none => s
    | some i => match s.incident i with
      | none => s
      | some v => s.clearEntry i v
  else s

/-! ## Acknowledging and escalating (R101, R102) -/

/-- An acknowledgement of entry `i` by a console (R101), with the state after it. -/
def State.acknowledge (s : State) (i e : Nat) (v : Incident) : State × Option IncState :=
  match v.st with
  | .activeUnack =>
    let w := { v with st := .activeAck, ackBy := some e, deadline := none }
    ((s.setIncident i (some w)).incDue i (w.notice (some .activeAck) .acknowledged), some .activeAck)
  | .activeAck => (s, some .activeAck)
  | .clearedUnack => ((s.freeEntry i).incDue i (v.notice none .freed), none)

/-- An escalation of entry `i` (R102). -/
def State.escalate (s : State) (i : Nat) (v : Incident) : State :=
  let w := { v with severity := min (v.severity + 1) 4,
                    deadline := if s.now = Config.maxTime then none else some (s.ackDeadline v.kind) }
  (s.setIncident i (some w)).incDue i (w.notice (some w.st) .escalated)

/-- The locks of an ACTIVE incident are taken again (R122). -/
def State.retakeFor (s : State) (i : Nat) : State :=
  match s.incident i with
  | some v => if v.active then v.effects.foldl (fun s e => s.lockEffect v e) s else s
  | none => s

/-- Incident locks taken again at START OPERATION, in ascending entry order (R122). -/
def State.retakeLocks (s : State) : State := (List.range Config.entries).foldl State.retakeFor s

end Sys2Proof.Machine
end

