-- ==== Sys2Proof/Machine/Regulator.lean ====
section
/-! DEFINITION. The service regulator (chapters 1 and 2): retirement, matching, the close of a stay, the hold, the train
telegrams' effects, silence and recovery, display cycles. -/

namespace Sys2Proof.Machine

/-! ## Retirement (R22, R23) -/

/-- The outcome of a retired record (R23). -/
def CallRecord.outcome (r : CallRecord) (p now : Nat) : Outcome :=
  { platform := p, trip := some r.trip, disp := r.disp, schedArr := some r.schedArr, schedDep := some r.schedDep,
    slot := r.slot, arrival := r.arrival, departure := r.departure, lateness := r.lateness, hold := r.hold,
    wait := r.wait, flags := r.flags, entered := now }

/-- A platform whose head record `r` has retired (R23). -/
def Platform.dropHead (pl : Platform) (r : CallRecord) : Platform :=
  { pl with
    ring := pl.ring.drop 1
    head := (pl.head + 1) % Config.ringCap
    active := if pl.active = some pl.head then none else pl.active
    lastSched := if r.disp = .departed then some r.schedDep else pl.lastSched
    lastDep := if r.disp = .departed then (if r.flags.departureUnseen then none else r.departure) else pl.lastDep }

/-- The head retires if it is finished (R23). -/
def State.retireHead (s : State) (p : Nat) : Option State :=
  match (s.plat p).ring with
  | [] => none
  | r :: _ =>
    if r.disp.finished then some ((s.pushOutcome (r.outcome p s.now)).modPlat p (fun pl => pl.dropHead r)) else none

/-- At most `n` heads retire. -/
def State.retireHeads (p : Nat) : Nat → State → State
  | 0, s => s
  | n + 1, s => match s.retireHead p with
    | none => s
    | some s' => State.retireHeads p n s'

/-- Retirement at a platform: every finished head retires (R23). -/
def State.retire (s : State) (p : Nat) : State := State.retireHeads p (s.plat p).ring.length s

/-- The unscheduled outcome of a stay that has no call (R22). -/
def State.pushUnscheduled (s : State) (t p : Nat) (departure : Option Nat) (flags : CallFlags) : State :=
  let y := (s.slot t).stay
  s.pushOutcome { platform := p, trip := none, disp := .departed, schedArr := none, schedDep := none, slot := some t,
                  arrival := y.map Stay.arrival, departure := departure, lateness := none,
                  hold := (y.map Stay.hold).getD 0, wait := (y.map Stay.wait).getD 0, flags := flags, entered := s.now }

/-- The flags that a stay record carries, none without one (R25). -/
def Slot.stayFlags (sl : Slot) : CallFlags := match sl.stay with | none => {} | some y => y.flags

/-! ## Leaving a platform -/

/-- The pool entry that a slot gives up when its stay is closed unseen (R9, R10): the queue entry from WAITING POWER, the
reservation from PERMITTED. -/
def State.giveUpStart (s : State) (t : Nat) : State :=
  match (s.slot t).st with
  | .waitingPower => s.removeQueued t
  | .permitted => s.endReservation t
  | _ => s

/-- A slot off its platform and RUNNING: no platform, release instant, console-permit flag, stay record, waiting advice or
waiting permit (R9, R10, R12, R32, R38). -/
def Slot.offPlatform (sl : Slot) : Slot :=
  { sl with st := .running, platform := none, release := none, consolePermit := false, stay := none, advice := none,
            permit := none }

/-- A record that becomes DEPARTED with nobody seeing it (R9, R10). -/
def CallRecord.leftUnseen (r : CallRecord) (flags : CallFlags) : CallRecord :=
  { r with disp := .departed, departure := none, lateness := none, flags := flags }

/-- The stay of slot `t` at `q` is closed as unseen (R9). -/
def State.closeStay (s : State) (t q : Nat) : State :=
  let st := (s.slot t).st
  let s := (s.modSlot t (fun sl => { sl with release := none })).giveUpStart t
  let s := match s.servedCall t q with
    | some (i, r) => (s.modPlat q (fun pl => pl.setRecord i (r.leftUnseen (r.flags.unseen st)))).retire q
    | none => s.pushUnscheduled t q none ((s.slot t).stayFlags.unseen st)
  (s.modSlot t Slot.offPlatform).recompute q

/-- A call left behind at `p` is displaced before an arrival is matched (R10). -/
def State.displace (s : State) (p : Nat) : State :=
  match (s.plat p).activeCall with
  | none => s
  | some (i, r) =>
    let u := r.slot.getD 0
    let su := s.slot u
    let flags := if su.atPlatform p then r.flags.unseen su.st
                 else { r.flags with departureUnseen := true, noPermit := true, noDoorsClosed := false }
    let s := s.modPlat p (fun pl => pl.setRecord i (r.leftUnseen flags))
    let s := if su.atPlatform p then (s.giveUpStart u).modSlot u Slot.offPlatform
             else if su.st = .lost ∧ su.platform = some p then s.modSlot u (fun sl => { sl with platform := none }) else s
    s.retire p

/-! ## Matching (R21) -/

/-- The indices from the head of the first four PENDING records (R21). -/
def Platform.examined (pl : Platform) : List Nat :=
  ((indices pl.ring.length (fun i => match pl.ring[i]? with | some r => decide (r.disp = .pending) | none => false))).take 4

/-- The match of a trip (R21). -/
def Platform.matchTrip (pl : Platform) (trip : Nat) : Option Nat :=
  pl.examined.find? (fun i => match pl.ring[i]? with | some r => decide (r.trip = trip) | none => false)

/-- A platform whose record `m` has become ACTIVE for slot `t` arriving at `a`, the PENDING ones before it SKIPPED (R21). -/
def Platform.activate (pl : Platform) (m t a : Nat) : Platform :=
  { pl with
    active := some ((pl.head + m) % Config.ringCap)
    ring := pl.ring.mapIdx (fun i r =>
      if i < m ∧ r.disp = .pending then { r with disp := .skipped }
      else if i = m then { r with disp := .active, slot := some t, arrival := some a } else r) }

/-- An armed announcement is consumed by an arrival (R135). -/
def State.consumeArming (s : State) (p : Nat) (ctx : ArrivalCtx) : State :=
  match (s.arming p).template with
  | none => s
  | some template =>
    let arm := s.arming p
    let e : QEntry := { template := template, cls := arm.cls, repeats := 1, arg1 := 255, arg2 := 255,
                        origin := .platform p, arrival := some ctx }
    let s := (s.plat p).zones.foldl (fun s k => s.offerOwn k e) s
    if arm.repeating then s else s.setArming p { arm with template := none }

/-! ## Arrival (R7 to R10) -/

/-- The arrival of a slot that stands between stations at `p` with trip `trip` (R7). -/
def State.arrive (s : State) (t p trip : Nat) : State :=
  let old := s.slot t
  let s := (s.giveUpStart t).modSlot t (fun sl => { sl with trip := trip, release := none, permit := none, advice := none })
  let s := s.displace p
  let found := (s.plat p).matchTrip trip
  let call := match found with | none => none | some m => (s.plat p).ring[m]?
  let s := match found with
    | none => s
    | some m => (s.modPlat p (fun pl => pl.activate m t s.now)).retire p
  let lateness := match call with
    | none => old.lateness
    | some r => some (satLateness ((s.now : Int) - r.schedArr))
  let stay : Option Stay := match call with | none => some { arrival := s.now } | some _ => none
  let s := s.modSlot t (fun sl => { sl with platform := some p, st := .dwelling, lateness := lateness, stay := stay })
  let changed := (if trip ≠ old.trip then s.showing old.trip ++ s.showing trip else []) ++
                 (if lateness ≠ old.lateness then s.showing trip else [])
  let s := s.recomputeAll ((sortAsc changed).filter (fun q => decide (q ≠ p)))
  (s.recompute p).consumeArming p { slot := t, call := call.map (fun r => (r.trip, r.dest)) }

/-- ARRIVED at a loaded platform from a slot that is not LOST (R7 to R9). -/
def State.arrived (s : State) (t p trip : Nat) : State :=
  let sl := s.slot t
  if sl.atPlatform p then s
  else if sl.atAnyPlatform then (s.closeStay t (sl.platform.getD 0)).arrive t p trip
  else s.arrive t p trip

/-! ## The hold (R26 to R32) -/

/-- The follower's expected arrival (R27): the first PENDING record after the ACTIVE call at index `i`. -/
def State.follower (s : State) (p i : Nat) : Option Int :=
  match ((s.plat p).ring.drop (i + 1)).find? (fun r => decide (r.disp = .pending)) with
  | none => none
  | some r => some ((r.schedArr : Int) + s.latenessOf r.trip)

/-- The effective mode of a platform (R26). -/
def State.effectiveMode (s : State) (p : Nat) : Mode := if s.platHeadway p then .headway else (s.plat p).mode

/-- E0 (R28): the earliest instant at which the train may leave. -/
def earliest (call : Option CallRecord) (arrival closed : Nat) : Nat :=
  match call with
  | none => min closed Config.maxTime
  | some r => min (max closed (arrival + 8 * r.dmin)) Config.maxTime

/-- The target of the hold for a call (R29, R30). -/
def State.target (s : State) (p i : Nat) (r : CallRecord) (e0 : Nat) : Int :=
  let pl := s.plat p
  let timetable : Int := (r.schedDep : Int) - 8 * pl.early
  match s.effectiveMode p with
  | .off => e0
  | .timetable => timetable
  | .headway => match pl.lastDep, pl.lastSched with
    | some dep, some sched =>
      let want : Int := (dep : Int) + ((r.schedDep : Int) - sched)
      match s.follower p i with
      | none => want
      | some f => min want (((dep : Int) + f + 8 * r.dmin) / 2)
    | _, _ => timetable

/-- The hold and the release instant of slot `t` at `p` whose doors have closed at `closed` (R28 to R31). -/
def State.holdOf (s : State) (t p closed : Nat) : Nat × Nat :=
  match s.servedCall t p with
  | none => let e0 := earliest none 0 closed; (0, e0)
  | some (i, r) =>
    let e0 := earliest (some r) (r.arrival.getD 0) closed
    let h := (clamp 0 (8 * (s.plat p).hmax) (s.target p i r e0 - e0)).toNat
    (h, min (e0 + h) Config.maxTime)

/-- DOORS CLOSED taken for slot `t` at its platform `p` (R11, R31, R32): the slot is HELD, the hold is recorded and
advised, and a release instant that is already here is taken at once (R34). -/
def State.doorsClosedAt (s : State) (t p : Nat) : State :=
  let (h, release) := s.holdOf t p s.now
  let s := s.modSlot t (fun sl => { sl with st := .held, release := some (s.instant release) })
  let s := s.modStay t (fun r => { r with hold := h }) (fun y => { y with hold := h })
  let s := s.sendAdvice t (holdAdvice ((s.slot t).addr.getD 0) (s.plat p).display h release)
  if h = 0 ∧ release = s.now then s.takeRelease t p release else s

/-- DOORS CLOSED from a slot that is not LOST: taken only from DWELLING or HELD at `p` (R11). -/
def State.doorsClosed (s : State) (t p : Nat) : State :=
  let sl := s.slot t
  if (sl.st = .dwelling ∨ sl.st = .held) ∧ sl.platform = some p then s.doorsClosedAt t p else s

/-! ## Departure (R12, R40 to R42) -/

/-- The late-train check (R42). -/
def State.lateCheck (s : State) (t p : Nat) (late : Int) : State :=
  let limit : Int := (s.plat p).lateLimit
  let loc : Location := { typ := .train, idx := t }
  if limit = 0 then s
  else if late > 8 * limit then s.raiseOwn 4 loc .regulator
  else if late ≤ 4 * limit then s.selfClear 4 loc
  else s

/-- DEPARTED taken for slot `t` at its platform `p` (R12). -/
def State.departAt (s : State) (t p : Nat) : State :=
  let old := s.slot t
  let s := s.removeQueued t
  let s := s.modSlot t (fun sl => { sl with st := .running, release := none, advice := none, permit := none })
  let s := match s.servedCall t p with
    | some (i, r) =>
      let late := satLateness ((s.now : Int) - r.schedDep)
      let r' := { r with disp := .departed, departure := some s.now, lateness := some late,
                         flags := r.flags.departed old.st old.consolePermit }
      let s := (s.modPlat p (fun pl => pl.setRecord i r')).modSlot t (fun sl => { sl with lateness := some late })
      (s.retire p).lateCheck t p late
    | none => s.pushUnscheduled t p (some s.now) (old.stayFlags.departed old.st old.consolePermit)
  let s := s.modSlot t Slot.offPlatform
  let changed := if (s.slot t).lateness ≠ old.lateness then s.showing (s.slot t).trip else []
  (s.recomputeAll (changed.filter (fun q => decide (q ≠ p)))).recompute p

/-- DEPARTED (R12): taken only from an at-platform state at `p`. -/
def State.departed (s : State) (t p : Nat) : State := if (s.slot t).atPlatform p then s.departAt t p else s

/-! ## POSITION and START REQUEST (R6, R13) -/

/-- The slot records its current section, with the no-traction flag of that section (R2, R6, R13). -/
def State.recordSection (s : State) (t k : Nat) : State :=
  s.modSlot t (fun sl => { sl with sect := some k, noTraction := decide ((s.sect k).st ≠ .energised) })

/-- POSITION (R6). -/
def State.position (s : State) (t k : Nat) : State :=
  (s.recordSection t k).modSlot t (fun sl => if sl.st = .unplaced then { sl with st := .running } else sl)

/-- The states from which START REQUEST is taken (R13). -/
def Slot.mayRequest (sl : Slot) : Bool :=
  decide (sl.st = .running) || (decide (sl.st = .permitted) && sl.platform.isNone)

/-- START REQUEST (R13). -/
def State.startRequest (s : State) (t k : Nat) : State :=
  if (s.slot t).mayRequest then
    let s := (s.modSlot t (fun sl => { sl with st := .running, permit := none })).endReservation t
    (s.recordSection t k).startBetween t k
  else s

/-! ## Silence and recovery (R14, R15) -/

def trainAt (t : Nat) : Location := { typ := .train, idx := t }

/-- A bound slot goes LOST (R14). DESIGN CHOICE (log entry 44): R14 lists its effects without an order. The model removes the
pool entry first, with the re-evaluation and the grants that this makes, raises kind 1 with its effects next, and makes the
notice due last, so that it carries the no-traction flag as these leave it. -/
def State.loseTrain (s : State) (t : Nat) : State :=
  if (s.slot t).st = .lost then s
  else
    let s := s.leavePool t
    let s := s.modSlot t (fun sl =>
      { sl with st := .lost, release := none, consolePermit := false, stay := none, advice := none, permit := none })
    (s.raiseOwn 1 (trainAt t) .regulator).trainDue t .lost

/-- The end of a recovery: kind 1 is self-cleared and the notice RECOVERED is due (R15). DESIGN CHOICE (log entry 43): the
clear, with its own notice CLEARED, comes before the notice RECOVERED on the same queue; R15 gives no order. -/
def State.noticeRecovered (s : State) (t : Nat) : State := (s.selfClear 1 (trainAt t)).trainDue t .recovered

/-- A LOST slot whose first frame is DOORS CLOSED at its platform, where its call stands, resumes its call (R15). -/
def State.resumes (s : State) (t p : Nat) : Bool := decide ((s.slot t).platform = some p) && (s.servedCall t p).isSome

/-- A LOST slot recovers (R15): to HELD when its first frame resumes its call at `resume`, to RUNNING otherwise. DESIGN CHOICE
(log entry 43): the hold is computed, and a held platform is asked for, before kind 1 is self-cleared, so that an effect of
that incident still counts; R15 gives no order. -/
def State.recover (s : State) (t : Nat) (resume : Option Nat) : State :=
  match resume with
  | some p => (s.doorsClosedAt t p).noticeRecovered t
  | none => (s.modSlot t (fun sl => { sl with st := .running, platform := none })).noticeRecovered t

/-! ## Display cycles (R24, R46) -/

/-- A record's S lies more than the lapse limit before now (R24). -/
def CallRecord.overdue (r : CallRecord) (lapse now : Nat) : Bool := decide (r.schedDep + 8 * lapse < now)

/-- An ACTIVE head is an orphan unless its slot is at the platform, or LOST with that platform (R24). -/
def State.orphan (s : State) (p : Nat) (r : CallRecord) : Bool :=
  match r.slot with
  | none => true
  | some t => !((s.slot t).atPlatform p || (decide ((s.slot t).st = .lost) && decide ((s.slot t).platform = some p)))

/-- The head lapses if it is overdue, and PENDING or an orphan; then every finished head retires (R24). -/
def State.lapseHead (s : State) (p : Nat) : Option State :=
  match (s.plat p).ring with
  | [] => none
  | r :: _ =>
    if r.overdue (s.plat p).lapse s.now && (decide (r.disp = .pending) || (decide (r.disp = .active) && s.orphan p r)) then
      some ((s.modPlat p (fun pl => pl.setRecord 0 { r with disp := .lapsed })).retire p)
    else none

/-- At most `n` heads lapse. -/
def State.lapseHeads (p : Nat) : Nat → State → State
  | 0, s => s
  | n + 1, s => match s.lapseHead p with
    | none => s
    | some s' => State.lapseHeads p n s'

def State.lapse (s : State) (p : Nat) : State := State.lapseHeads p (s.plat p).ring.length s

/-- A display cycle (R24, R46): overdue heads lapse, platform by platform in ascending order, and then every loaded cell is
recomputed. DESIGN CHOICE (log entry 35): R24 and R46 give no order of the platforms, which is the order in which the LAPSED
outcomes join the batch buffer and the changed cells are sent. -/
def State.displayCycle (s : State) : State :=
  let s := s.loadedPlatforms.foldl State.lapse s
  s.recomputeAll s.loadedPlatforms

/-! ## Binding and releasing (R3, R4) -/

/-- A train is bound to a FREE slot (R3). -/
def State.bind (s : State) (t a trip cls : Nat) : State :=
  let s := s.setSlot t { addr := some a, trip := trip, cls := cls, st := .unplaced, lastHeard := s.now }
  let s := s.setUnit a { s.unit a with role := .train, index := t }
  s.recomputeAll (s.showing trip)

/-- A slot is released (R4). DESIGN CHOICE (log entry 43): kind 1 of a LOST slot is self-cleared after the slot's fields have
their reset values, so that a clearance announcement at the slot finds no platform and no section; R4 gives no order. -/
def State.release (s : State) (t : Nat) : State :=
  let old := s.slot t
  let s := s.leavePool t
  let s := match old.addr with
    | none => s
    | some a => s.setUnit a { s.unit a with role := .unused }
  let s := s.setSlot t {}
  let s := if old.st = .lost then s.selfClear 1 (trainAt t) else s
  s.recomputeAll (s.showing old.trip)

/-- STOP OPERATION for a slot (R16): every bound slot goes to UNPLACED and keeps its identity and lateness. -/
def Slot.stopped (sl : Slot) : Slot :=
  if sl.st = .free then sl
  else { addr := sl.addr, trip := sl.trip, cls := sl.cls, st := .unplaced, lateness := sl.lateness, lastHeard := sl.lastHeard }

/-- STOP OPERATION for a record (R16): an ACTIVE call becomes PENDING again. -/
def CallRecord.stopped (r : CallRecord) : CallRecord :=
  if r.disp = .active then
    { r with disp := .pending, slot := none, arrival := none, hold := 0, wait := 0, flags := {} }
  else r

/-- STOP OPERATION for a platform (R16). A cell that waited for room waits for START OPERATION. -/
def Platform.stopped (pl : Platform) : Platform :=
  { pl with ring := pl.ring.map CallRecord.stopped, active := none, cellSince := none }

end Sys2Proof.Machine
end

