-- ==== Sys2Proof/Machine/Reports.lean ====
section
/-! DEFINITION. Feeder reports (R53, R57 to R66, R70), switching deadlines (R62, R64) and the silence of a substation (R56). -/

namespace Sys2Proof.Machine

def sectionAt (k : Nat) : Location := { typ := .sect, idx := k }

/-- One entry of a FEEDER REPORT (3.2). -/
structure ReportEntry where
  number : Nat
  kw : Int
  breaker : Breaker
  protection : Bool
  deriving DecidableEq, Repr

/-! ## Applying the entries (R53, first part) -/

/-- The feeder that an entry of a substation's report matches; numbers above 7 match none (R53). -/
def State.matched (s : State) (sub : Nat) (e : ReportEntry) : Option Nat :=
  if e.number ≤ 7 then s.feederAt sub e.number else none

/-- An entry is applied: the reading, the stale flag, the breaker state (R53, R54). -/
def State.applyEntry (sub : Nat) (s : State) (e : ReportEntry) : State :=
  match s.matched sub e with
  | none => s
  | some i => s.modFeeder i (fun f => { f.reading e.kw with stale := false, breaker := e.breaker })

/-- The sections with a feeder matched in the report, ascending (R53). -/
def State.reported (s : State) (sub : Nat) (es : List ReportEntry) : List Nat :=
  sortAsc (es.filterMap (fun e => (s.matched sub e).map (fun i => (s.feeder i).sect)))

/-- A feeder of section `k` is reported OPEN with the protection-opened flag (R59). -/
def State.protectionOpened (s : State) (sub : Nat) (es : List ReportEntry) (k : Nat) : Bool :=
  es.any (fun e => e.protection && decide (e.breaker = .opened) &&
    (match s.matched sub e with | none => false | some i => decide ((s.feeder i).sect = k)))

/-- The report has changed the recorded breaker state of a feeder of the section (R66). -/
def State.breakersChanged (s before : State) (k : Nat) : Bool :=
  (s.feedersOf k).any (fun i => decide ((s.feeder i).breaker ≠ (before.feeder i).breaker))

/-! ## The state derived from the breakers (R58 to R66) -/

/-- ENERGISED is entered (R60): the notice, the no-traction flags, the self-clear of kind 3. -/
def State.energised (s : State) (k : Nat) (cause : SectCause) : State :=
  (s.setSectState k .energised cause).selfClear 3 (sectionAt k)

/-- A trip (R58, R59). -/
def State.trip (s : State) (k : Nat) (cause : SectCause) : State :=
  (s.setSectState k .tripped cause).raiseOwn 3 (sectionAt k) .powerUnit

/-- A breaker of the section is recorded CLOSED. -/
def State.someClosed (s : State) (k : Nat) : Bool := (s.feedersOf k).any (fun i => decide ((s.feeder i).breaker = .closed))

/-- The state of a section after a report (R58 to R66, Table 3-5). DESIGN CHOICE (log entry 42): a report that changes a breaker
of a section in FAULT and leaves it incomplete leaves it in FAULT; R66 and Table 3-5 do not name the case. -/
def State.deriveState (s : State) (k : Nat) (protection changed : Bool) : State :=
  let lock := s.interlocked k
  match (s.sect k).st, s.breakers k with
  | .unknown, .incomplete => s
  | .unknown, .allOpen => s.setSectState k .isolated .report
  | .unknown, .allClosed => if lock then s.isolationRequest k .interlock else s.energised k .report
  | .unknown, .mixed => if lock then s.isolationRequest k .interlock else s.trip k .uncommanded
  | .energised, .allClosed => s
  | .energised, _ =>
    if (s.feedersOf k).any (fun i => decide ((s.feeder i).breaker = .opened)) then
      s.trip k (if protection then .protection else .uncommanded)
    else s
  | .isolating, .allOpen => s.setSectState k .isolated .switched
  | .isolating, _ => s
  | .isolated, b =>
    if lock then (if s.someClosed k then s.isolating k .reclose else s)
    else if b = .allClosed then s.energised k .reclose else s
  | .energising, .allClosed => s.energised k .switched
  | .energising, _ => s
  | .tripped, .allClosed => s.energised k .reclose
  | .tripped, _ => s
  | .fault, b =>
    if changed then
      match b with
      | .allOpen => s.setSectState k .isolated .report
      | .allClosed => if lock then s.isolationRequest k .reclose else s.energised k .reclose
      | .mixed | .incomplete => s
    else s

/-! ## Overload (R70) -/

/-- Overload detection at a report (R70). -/
def State.overload (s : State) (k : Nat) : State :=
  let v := s.sect k
  let above := if v.m > v.ceff then min (v.overCount + 1) 3 else 0
  let below := if 8 * v.m ≤ 7 * (v.ceff : Int) then min (v.underCount + 1) 5 else 0
  let s := s.setSect k { v with overCount := above, underCount := below }
  let s := if above = 3 ∧ v.overCount = 2 then s.raiseOwn 2 (sectionAt k) .powerUnit else s
  if below = 5 ∧ v.underCount = 4 then s.selfClear 2 (sectionAt k) else s

/-! ## The report (R53) -/

/-- One section of a report is handled (R53, steps 1 to 4), and then re-evaluated if it has a cause (R82). -/
def State.handleSection (sub : Nat) (es : List ReportEntry) (before : State) (s : State) (k : Nat) : State :=
  let old := s.sect k
  let s := if old.measLost then
      (s.modSect k (fun v => { v with measLost := false })).sectDue k old.st .measurementRestored else s
  let s := s.remeasure k
  let moved := decide ((s.sect k).m ≠ old.m)
  let s := s.deriveState k (s.protectionOpened sub es k) (s.breakersChanged before k)
  let entered := decide (old.st ≠ .energised) && decide ((s.sect k).st = .energised)
  let s := s.overload k
  if old.measLost || moved || entered then s.reevaluate k else s

/-- A FEEDER REPORT from substation `sub`, taken whole (R53). -/
def State.feederReport (s : State) (sub : Nat) (es : List ReportEntry) : State :=
  let before := s
  let s := es.foldl (State.applyEntry sub) s
  (s.reported sub es).foldl (State.handleSection sub es before) s

/-! ## Switching deadlines (R62, R64) -/

/-- What a switching section orders, and the breaker state that needs no order. -/
def SectState.orders : SectState → Option (OrderKind × Breaker)
  | .isolating => some (.isolate, .opened)
  | .energising => some (.energise, .closed)
  | .unknown | .energised | .isolated | .tripped | .fault => none

/-- A switching deadline is taken (R62, R64). DESIGN CHOICE (log entry 37): the new deadline is at most 1,048,575 in ENERGISING
as in ISOLATING; R64 gives no limit for its resend. -/
def State.takeDeadline (s : State) (k : Nat) : State :=
  match (s.sect k).st.orders with
  | none => s
  | some (kind, done) =>
    if (s.sect k).attempts < 3 then
      (s.modSect k (fun v => { v with attempts := v.attempts + 1,
                                      deadline := some (s.instant (s.now + Config.switchingLimit)) })).orderAll k kind (some done)
    else (s.setSectState k .fault .switchingFailure).raiseOwn 8 (sectionAt k) .powerUnit

/-! ## The silence of a substation (R56) -/

/-- The loaded feeders of a substation. -/
def State.feedersAt (s : State) (sub : Nat) : List Nat :=
  indices Config.feeders (fun i => (s.feeder i).loaded && decide ((s.feeder i).substation = sub))

/-- A section whose feeders are all stale, with at least one, loses its measurement (R56). -/
def State.loseMeasurement (s : State) (k : Nat) : State :=
  let fs := s.feedersOf k
  if !fs.isEmpty && fs.all (fun i => (s.feeder i).stale) && !(s.sect k).measLost then
    (s.modSect k (fun v => { v with measLost := true })).sectDue k (s.sect k).st .measurementLost
  else s

/-- The silence expiry of a substation at the power unit (R56). DESIGN CHOICE (log entry 40): the sections lose their
measurement, and their notices fall due, by ascending index; R56 gives no order. -/
def State.silenceSubstation (s : State) (sub : Nat) : State :=
  let s := (s.feedersAt sub).foldl (fun s i => s.modFeeder i (fun f => { f with stale := true })) s
  (List.range Config.sections).foldl State.loseMeasurement s

/-! ## STOP OPERATION (R73, R87) -/

/-- A feeder after STOP OPERATION (R73). -/
def Feeder.stopped (f : Feeder) : Feeder := if f.loaded then { f with breaker := .unknown, waiting := none } else f

/-- A loaded section goes to UNKNOWN; its notice is due if its state has changed (R73). -/
def State.stopSection (s : State) (k : Nat) : State :=
  let old := s.sect k
  let s := s.setSect k { old with st := .unknown, deadline := none, attempts := 0, overCount := 0, underCount := 0 }
  if old.st = .unknown then s else s.sectDue k old.st .stopped

/-- The start pool is emptied (R87): entries, queues and sums. -/
def State.emptyPool (s : State) : State :=
  let s := (List.range Config.sections).foldl
    (fun s k => s.modSect k (fun v => { v with queue := [], reserved := 0 })) s
  s.setPow { s.pow with pool := [] }

/-- STOP OPERATION at the power unit (R73, R87). DESIGN CHOICE (log entry 40): the notices STOPPED fall due by ascending
section; R73 gives no order. -/
def State.stopPower (s : State) : State :=
  let s := (List.range Config.feeders).foldl (fun s i => s.modFeeder i Feeder.stopped) s
  s.loadedSections.foldl State.stopSection s.emptyPool

end Sys2Proof.Machine
end

