-- ==== Sys2Proof/Machine/Zones.lean ====
section
/-! DEFINITION. The PA frame protocol (R144 to R147), fault and readiness (R151), locks (R152), the console's PA frames (R154)
and STOP OPERATION at the zones (R157). -/

namespace Sys2Proof.Machine

def zoneAt (k : Nat) : Location := { typ := .zone, idx := k }

/-! ## Fault and readiness (R151) -/

/-- The PLAYING entry of a zone, if any, is suspended where it stands, without PA ABORT (R151). -/
def State.suspendPlaying (s : State) (k : Nat) : State :=
  match (s.zone k).playing with
  | none => s
  | some _ => s.suspend k (s.zone k).currentIdx

/-- A zone goes to FAULT, or takes a new cause there (R151). -/
def State.enterFault (s : State) (k : Nat) (cause : FaultCause) (raiser : Raiser) : State :=
  if (s.zone k).st = .fault then
    (s.modZone k (fun z => { z with cause := some cause })).raiseOwn 6 (zoneAt k) raiser
  else
    let s := (s.suspendPlaying k).modZone k (fun z => { z with st := .fault, cause := some cause, gapEnd := none })
    (s.raiseOwn 6 (zoneAt k) raiser).zoneDue k { reason := .fault cause }

/-- A zone leaves FAULT (R151). -/
def State.leaveFault (s : State) (k : Nat) : State :=
  let s := s.modZone k (fun z => { z with st := .idle, cause := none })
  ((s.selfClear 6 (zoneAt k)).zoneDue k { reason := .ready }).select k

/-- The loaded zones of a PA unit, ascending as R163 has it at a silence expiry. DESIGN CHOICE (log entry 40): they are taken in
the same order at a PA FAULT, a PA READY and an end of silence, for which R151 and R164 give none. -/
def State.zonesOf (s : State) (a : Nat) : List Nat := s.loadedZones.filter (fun k => decide ((s.zone k).addr = some a))

/-- The zones that a PA FAULT or PA READY from unit `a` reaches: the one named if it is the unit's own, all of the unit's
when none is named (R151). -/
def State.zonesNamed (s : State) (a : Nat) (named : Option Nat) : List Nat :=
  match named with
  | none => s.zonesOf a
  | some k => (s.zonesOf a).filter (fun j => decide (j = k))

/-- PA FAULT (R151). -/
def State.paFault (s : State) (a : Nat) (named : Option Nat) : State :=
  (s.zonesNamed a named).foldl (fun s k => s.enterFault k .reported .composer) s

/-- A zone reached by PA READY leaves FAULT; a zone that is not in FAULT ignores it (R151). -/
def State.readyZone (s : State) (k : Nat) : State := if (s.zone k).st = .fault then s.leaveFault k else s

/-- PA READY (R151). -/
def State.paReady (s : State) (a : Nat) (named : Option Nat) : State := (s.zonesNamed a named).foldl State.readyZone s

/-! ## Answers of a PA unit (R144, R146, R149) -/

/-- FRAME DONE or PA BUSY from unit `a` matches the zone's outstanding frame (R144). -/
def State.answers (s : State) (a k tag idx : Nat) : Bool :=
  let z := s.zone k
  decide (k < Config.zones) && z.loaded && decide (z.addr = some a) && decide (z.st = .sending) &&
  (match z.outstanding with | none => false | some o => o.queued && decide (o.tag = tag) && decide (o.idx = idx))

/-- A preemption at the boundary after frame `idx` (R149). -/
def State.preemptAtBoundary (s : State) (k idx : Nat) (last : Bool) : State :=
  if !last then (s.suspend k (idx + 1)).idleSelect k
  else match (s.zone k).playing with
    | none => s
    | some e =>
      let s := s.modZone k (fun z => { z with queue := modFirst QEntry.isPlaying (fun e => { e with plays := e.plays + 1 }) z.queue })
      if e.plays + 1 < e.repeats then (s.suspend k 0).idleSelect k else (s.endPlaying k .done).idleSelect k

/-- A frame sent at the event of a FRAME DONE is stamped with the line time of this boundary (R155, log entry 38). -/
def State.markBoundary (s : State) (k : Nat) : State :=
  s.modZone k (fun z => { z with outstanding := z.outstanding.map (fun o => { o with boundary := some s.now }) })

/-- A matching FRAME DONE, up to the stamp of the frame that it sends (R144). -/
def State.frameEnds (s : State) (k tag idx : Nat) : State :=
  let last := decide (idx + 1 = (s.zone k).playBuf.frames)
  let s := s.modZone k (fun z => { z with deadline := none, expiryRun := 0, outstanding := none })
  match (s.zone k).playing with
  | none => s
  | some e =>
    if (s.zone k).outranked e then s.preemptAtBoundary k idx last
    else if last then s.endPlay k
    else s.sendFrame k (idx + 1) tag 0

/-- A matching FRAME DONE (R144). -/
def State.frameDone (s : State) (k tag idx : Nat) : State := (s.frameEnds k tag idx).markBoundary k

/-- A matching PA BUSY (R146). DESIGN CHOICE (log entry 37): a gap end that would lie beyond the last line time is taken as
1,048,575, which bounds every stored instant (3.1); R146 does not say so. -/
def State.paBusy (s : State) (k : Nat) : State :=
  let s := s.modZone k (fun z => { z with deadline := none, expiryRun := 0,
                                          queue := modFirst QEntry.isPlaying (fun e => { e with busy := e.busy + 1 }) z.queue })
  match (s.zone k).playing with
  | none => s
  | some e =>
    if e.busy < 3 then s.modZone k (fun z => { z with st := .gap, gapEnd := some (s.instant (s.now + 32)) })
    else (s.endPlaying k .failedBusy).idleSelect k

/-! ## Deadlines (R145, R146, R147, R152) -/

/-- A frame deadline is taken (R145). -/
def State.frameDeadline (s : State) (k : Nat) : State :=
  let z := s.zone k
  match z.outstanding with
  | none => s
  | some o =>
    if z.expiryRun < 2 then s.sendFrame k o.idx o.tag (z.expiryRun + 1)
    else (s.endPlaying k .failedNoAnswer).enterFault k .noAnswer .composer

/-- A gap ends (R146, R147): the same frame after PA BUSY, frame 0 of the next play otherwise. -/
def State.gapEnds (s : State) (k : Nat) : State :=
  match (s.zone k).outstanding, (s.zone k).playing with
  | some o, _ => s.sendFrame k o.idx o.tag (s.zone k).expiryRun
  | none, some e => s.sendFrame k 0 e.entryTag 0
  | none, none => s

/-- The instant at which a console lock is released by age (R152). -/
def Zone.lockAge (z : Zone) : Option Nat :=
  match z.lock with
  | .console _ =>
    some (if z.lockInstant = Config.maxTime then Config.unreached else after z.lockInstant 7200)
  | .unlocked | .incident _ => none

/-! ## Lock requests (R152, Table 8-4) -/

/-- LOCK ZONE from console `e`: `none` is BUSY. -/
def State.lockZone (s : State) (k e : Nat) (supervisor : Bool) : Option State :=
  match (s.zone k).lock with
  | .unlocked => some (s.takeLock k (.console e))
  | l =>
    if l = .console e then some (s.modZone k (fun z => { z with lockInstant := s.now }))
    else if supervisor then some ((s.unlockDue k .unlockedTaken l).takeLock k (.console e))
    else none

/-- UNLOCK ZONE from console `e`: `none` is NOT PERMITTED. -/
def State.unlockZone (s : State) (k e : Nat) (supervisor : Bool) : Option State :=
  match (s.zone k).lock with
  | .unlocked => some s
  | l => if l = .console e ∨ supervisor then some (s.releaseLock k .unlockedRequest) else none

/-! ## The console's PA frames (R154) -/

/-- The composer's answer on a console PA FRAME or PA ABORT from entry `e` to unit `dst` naming zone `k`; `none` is PASS. -/
def State.paCheck (s : State) (e dst k : Nat) : Option Reason :=
  let z := s.zone k
  if !(decide (k < Config.zones) && z.loaded && decide (z.addr = some dst)) then some .badArgument
  else match z.lock with
    | .unlocked => some .notPermitted
    | .incident _ => some .busy
    | .console c =>
      if c ≠ e then some .busy
      else if z.queue.any (fun x => x.isPlaying || x.isSuspended) then some .busy
      else none

/-! ## LOAD ZONE and STOP OPERATION (R137, R157) -/

/-- A zone at rest: nothing queued, locked, outstanding, composed or timed (R137, R157). -/
def Zone.atRest (z : Zone) : Zone :=
  { z with st := .idle, cause := none, lock := .unlocked, queue := [], playBuf := {}, suspBuf := {}, outstanding := none,
           deadline := none, expiryRun := 0, gapEnd := none }

/-- STOP OPERATION at a zone (R157). -/
def State.stopZone (s : State) (k : Nat) : State := (s.abortIfQueued k).modZone k Zone.atRest

end Sys2Proof.Machine
end

