-- ==== Sys2Proof/Machine/Classifier.lean ====
section
/-! DEFINITION. The telegram classifier (chapter 10): taking a frame from a FIFO, the stages of a field frame (R170 to R173),
the end of a unit's silence (R164), console frames and pass-through telegrams (R175 to R180). -/

namespace Sys2Proof.Machine

def substationAt (n : Nat) : Location := { typ := .substation, idx := n }

/-! ## The stages of a field frame (R170, R171) -/

/-- The train slot that an address is bound to, if its entry has role TRAIN (R166). -/
def State.trainOf (s : State) (a : Nat) : Option Nat := if (s.unit a).role = .train then some (s.unit a).index else none

/-- The last-heard instant of an address becomes the present line time (R170); a train's stands in its slot (R162). -/
def State.refresh (s : State) (a : Nat) : State :=
  let s := s.setSupervision a { s.supervision a with lastHeard := s.now }
  match s.trainOf a with
  | none => s
  | some t => s.modSlot t (fun sl => { sl with lastHeard := s.now })

/-- A zone of a PA unit that is heard again leaves FAULT if its cause is SILENCE (R164). -/
def State.hearZone (s : State) (k : Nat) : State :=
  if (s.zone k).st = .fault ∧ (s.zone k).cause = some .silence then s.leaveFault k else s

/-- The end of the silence of a substation or PA unit with this role and index, handed over (R164). -/
def State.handSilenceEnd (s : State) (a : Nat) (u : UnitEntry) : State :=
  match u.role with
  | .substation => s.selfClear 7 (substationAt u.index)
  | .paUnit => (s.zonesOf a).foldl State.hearZone s
  | .unused | .train | .display | .station => s

/-- The end of a silence (R164), if the source is silent: a LOST train recovers, resuming its call at `resume` if that is
given (R15); the flag of any other unit clears. -/
def State.endSilence (s : State) (a : Nat) (resume : Option Nat) : State :=
  match s.trainOf a with
  | some t => if (s.slot t).st = .lost then s.recover t resume else s
  | none =>
    if (s.supervision a).silent then
      (s.setSupervision a { s.supervision a with silent := false }).handSilenceEnd a (s.unit a)
    else s

/-- The policy copies frames to the consoles (Table 10-2). -/
def Policy.copies : Policy → Bool
  | .pass | .both => true
  | .act | .drop => false

/-- The policy has frames acted on (Table 10-2). -/
def Policy.acts : Policy → Bool
  | .act | .both => true
  | .pass | .drop => false

/-- The copy of a known frame (R171). -/
def State.forward (s : State) (f : Frame) : State :=
  if (s.unit f.src).policy.copies then s.queueOrDiscard .console (if urgentCopy f.kind then .urgent else .normal) f else s

/-- A known frame's stages before its owner (R170, R171): refresh, end of silence while RUNNING, copy. -/
def State.heard (s : State) (f : Frame) (resume : Option Nat) : State :=
  let s := s.refresh f.src
  let s := if s.running then s.endSilence f.src resume else s
  s.forward f

/-! ## Fit (R172, R173) -/

/-- The kinds that fit a role (Table 10-3). -/
def Role.fits : Role → Nat → Bool
  | .train, k => decide (k = kArrived) || decide (k = kDoorsClosed) || decide (k = kDeparted) || decide (k = kPosition) ||
                 decide (k = kStartRequest)
  | .substation, k => decide (k = kFeederReport)
  | .paUnit, k => decide (k = kFrameDone) || decide (k = kPaBusy) || decide (k = kPaFault) || decide (k = kPaReady)
  | .station, k => decide (k = kHelpCall)
  | .display, _ => false
  | .unused, _ => false

/-- A field frame is acted on by an owner (R172, R173). -/
def State.actedOn (s : State) (f : Frame) : Bool :=
  let u := s.unit f.src
  s.running && u.policy.acts && u.role.fits f.kind

/-- The role-mismatch counter rises when a frame is tested and does not fit (R172). -/
def State.countMismatch (s : State) (f : Frame) : State :=
  let u := s.unit f.src
  if u.policy.acts && !u.role.fits f.kind then
    s.setCls { s.cls with roleMismatch := satSucc Config.counterMax s.cls.roleMismatch } else s

/-- The unknown-source counter rises (R170, R175). -/
def State.countUnknown (s : State) : State :=
  s.setCls { s.cls with unknownSource := satSucc Config.counterMax s.cls.unknownSource }

/-! ## Taking a frame (R182) -/

/-- The frame at the front of a port's FIFO; no console frame is taken while the reply hold is occupied (R182), and none
while the reset input is asserted (R200). -/
def State.front (s : State) (p : Port) : Option Frame :=
  if s.resetHeld then none
  else match p with
    | .field => s.fieldPort.fifo.head?
    | .console => if s.hnd.replyHold.isSome then none else s.consolePort.fifo.head?

/-- The front frame leaves its FIFO. -/
def State.pop (s : State) (p : Port) : State := s.setPort p { s.port p with fifo := (s.port p).fifo.drop 1 }

/-- A field frame of a kind that is acted on, taken as one event: its stages, then its owner (R170 to R173). The state is
unchanged where the FIFO's front frame is no such frame (log entry 1). -/
def State.onField (s : State) (kind : Nat) (owner : State → Frame → State) : State :=
  match s.front .field with
  | none => s
  | some f => if s.actedOn f ∧ f.kind = kind then s.take (fun s => owner ((s.pop .field).heard f none) f) else s

/-- A field frame that no owner acts on (R170 to R172). -/
def State.fieldFrame (s : State) : State :=
  match s.front .field with
  | none => s
  | some f =>
    if s.actedOn f then s
    else s.take (fun s =>
      let s := s.pop .field
      if (s.unit f.src).role = .unused then s.countUnknown else (s.heard f none).countMismatch f)

/-! ## Console frames (R168, R175) -/

/-- The console that sent a frame: its entry, its address and its privileges. -/
structure Sender where
  entry : Nat
  addr : Nat
  privs : PrivSet
  deriving DecidableEq, Repr

/-- The entry that a console frame's source matches (R168); 0, 4094 and 4095 match none. -/
def State.sender (s : State) (src : Nat) : Option Sender :=
  if src = 0 ∨ src = Config.allConsoles ∨ src = Config.self then none
  else (List.range Config.consoles).findSome? (fun e => match s.console e with
    | none => none
    | some c => if c.addr = src then some { entry := e, addr := c.addr, privs := c.privs } else none)

/-- A console frame whose source matches no entry is dropped and counted (R175). -/
def State.consoleFrame (s : State) : State :=
  match s.front .console with
  | none => s
  | some f => match s.sender f.src with
    | some _ => s
    | none => s.take (fun s => (s.pop .console).countUnknown)

/-! ## Pass-through telegrams (R176 to R180) -/

/-- Kinds that have a command of their own (R177 to R179). -/
def specialPass (kind : Nat) : Bool :=
  decide (kind = kDepartPermit) || decide (kind = kEnergiseOrder) || decide (kind = kPaFrame) || decide (kind = kPaAbort)

/-- The privilege of step 3 (R176); PA FRAME and PA ABORT need none there. -/
def passPrivilege (kind : Nat) : Option Priv :=
  if kind = kPaFrame ∨ kind = kPaAbort then none
  else if kind = kIsolateOrder ∨ kind = kEnergiseOrder then some .power
  else some .dispatch

/-- Steps 1 to 3 of R176: the reason of the first that fails. -/
def State.passCheck (s : State) (c : Sender) (f : Frame) : Option Reason :=
  if (s.unit f.dst).role = .unused then some .notFound
  else if (decide (0x80 ≤ f.kind) && decide (f.kind ≤ 0x85)) || (decide (0xC0 ≤ f.kind) && decide (f.kind ≤ 0xDE)) then
    some .badArgument
  else match passPrivilege f.kind with
    | none => none
    | some p => if c.privs.has p then none else some .notPermitted

/-- A passed telegram is queued on the field port unchanged, or discarded (R176, Table 11-1). -/
def State.pass (s : State) (f : Frame) : State :=
  s.queueOrDiscard .field (if urgentPassed f.kind then .urgent else .normal) f

/-- A refused telegram is answered with a REPLY whose result is its destination (R180). -/
def State.refuse (s : State) (c : Sender) (f : Frame) (r : Reason) : State :=
  s.sendReply (replyFrame c.addr f.kind r (u16 f.dst))

/-- A pass-through telegram of one of the kinds `mine`, taken as one event: steps 1 to 3 of R176, then its own check, then
passed with its own effect or refused. -/
def State.onPass (s : State) (mine : Nat → Bool) (check : State → Sender → Frame → Option Reason)
    (effect : State → Frame → State) : State :=
  match s.front .console with
  | none => s
  | some f => match s.sender f.src with
    | none => s
    | some c =>
      if f.dst ≠ Config.self ∧ mine f.kind then
        s.take (fun s =>
          let s := s.pop .console
          match (s.passCheck c f).or (check s c f) with
          | some r => s.refuse c f r
          | none => effect (s.pass f) f)
      else s

/-- The check of an ENERGISE ORDER (R177). -/
def State.energiseCheck (s : State) (_c : Sender) (f : Frame) : Option Reason :=
  let u := s.unit f.dst
  if u.role ≠ .substation then some .badArgument
  else match f.payload with
    | sub :: num :: sec :: _ =>
      if num.toNat > 7 ∨ sec.toNat ≥ Config.sections ∨ sub.toNat ≠ u.index then some .badArgument
      else
        let fed := match s.feederAt sub.toNat num.toNat with
          | none => false
          | some i => s.interlocked (s.feeder i).sect
        if fed || s.interlocked sec.toNat then some .interlocked else none
    | _ => some .badArgument

/-- The check of a DEPART PERMIT (R178). -/
def State.permitCheck (s : State) (c : Sender) (f : Frame) : Option Reason :=
  match s.trainOf f.dst with
  | none => some .badArgument
  | some t => match (s.slot t).platform with
    | none => none
    | some p => if s.platHeld p ∧ ¬ c.privs.has .supervisor then some .interlocked else none

/-- A passed DEPART PERMIT sets the console-permit flag of a slot in an at-platform state (R178). -/
def State.markPermit (s : State) (f : Frame) : State :=
  match s.trainOf f.dst with
  | none => s
  | some t => if (s.slot t).atAnyPlatform then s.modSlot t (fun sl => { sl with consolePermit := true }) else s

/-- The composer's check of a PA FRAME or PA ABORT (R154, R179). -/
def State.zoneCheck (s : State) (c : Sender) (f : Frame) : Option Reason :=
  match f.payload with
  | [] => some .badArgument
  | k :: _ => s.paCheck c.entry f.dst k.toNat

end Sys2Proof.Machine
end

