-- ==== Sys2Proof/Machine/Timing.lean ====
section
/-! DEFINITION. The timing unit (chapter 9): steps, slewing, publication, silence expiry, and starting and stopping the part
(R165, R198, R199). -/

namespace Sys2Proof.Machine

/-! ## Steps (R158, R160, R161) -/

/-- A step makes a LINE TIME publication due (R161). -/
def publishes (interval time : Nat) : Bool := decide (interval ≠ 0) && decide (time % (8 * interval) = 0)

/-- A step (R158): line time rises by one eighth; the display cycle (R24) and the publication (R161) of the value it
reaches become due. -/
def Timing.step (t : Timing) : Timing :=
  let n := t.lineTime + 1
  { t with lineTime := n, tested := (t.silence0, t.silence1, t.silence2, t.silence3), displayDue := t.displayDue || decide (n % 64 = 0),
           publishDue := t.publishDue || publishes t.interval n }

/-- The count of an ordinary step towards the next correction (R160). -/
def Timing.countStep (t : Timing) : Timing :=
  if t.slew = 0 then t
  else if t.phase + 1 < 64 then { t with phase := t.phase + 1 }
  else { t with phase := 0, correctionDue := true }

/-- A reference eighth is withheld by a negative correction (R160). -/
def Timing.withholds (t : Timing) : Bool := t.withhold || (t.correctionDue && decide (t.slew < 0))

/-- One reference eighth while RUNNING (R158, R160): it is withheld, or makes an ordinary step, or nothing at the maximum. -/
def Timing.eighth (t : Timing) : Timing :=
  if Config.maxTime ≤ t.lineTime then t
  else if t.withholds then { t with slew := t.slew + 1, withhold := false, correctionDue := false }
  else t.step.countStep

/-- The correction that the 64th step makes due (R160): an extra step at once, or the next reference eighth withheld. -/
def Timing.correct (t : Timing) : Timing :=
  if !t.correctionDue then t
  else if 0 < t.slew then
    (if Config.maxTime ≤ t.lineTime then t else { t.step with slew := t.slew - 1, correctionDue := false })
  else if t.slew < 0 then { t with correctionDue := false, withhold := true }
  else { t with correctionDue := false }

/-- The timing unit with no slew in progress (R159, R160, R165). -/
def Timing.noSlew (t : Timing) : Timing := { t with slew := 0, phase := 0, correctionDue := false, withhold := false }

/-- The publication of R161: queued, or waiting when the queue is full; none is made while one waits. -/
def State.publish (s : State) : State :=
  if s.tim.waiting then s
  else if s.hasRoom .field .normal then s.queueLineTime
  else
    let s := s.join .field .normal .timingUnit
    s.setTim { s.tim with waiting := true }

/-! ## Silence expiry (R162, R163) -/

/-- The silence class of a supervised address (Table 9-3); `none` when it is not supervised. -/
def State.silenceClass (s : State) (a : Nat) : Option Nat :=
  let u := s.unit a
  match u.role with
  | .train => if (s.slot u.index).st = .free ∨ (s.slot u.index).st = .lost then none else some (u.silence.getD 0)
  | .substation | .paUnit => u.silence
  | .unused | .display | .station => none

/-- The silence limit in seconds of a supervised address (Table 9-3), by the classes as they are loaded. -/
def State.silenceLimit (s : State) (a : Nat) : Option Nat := (s.silenceClass a).map s.silenceOf

/-- The silence limit that the last step tested the address with (R163). A class that LOAD CLASSES has set since then
waits for the next step, since the unit expires at a step. -/
def State.testedLimit (s : State) (a : Nat) : Option Nat := (s.silenceClass a).map s.testedOf

/-- The last-heard instant that counts for an address: the slot's for a train (R162). -/
def State.lastHeard (s : State) (a : Nat) : Nat :=
  match s.trainOf a with
  | some t => (s.slot t).lastHeard
  | none => (s.supervision a).lastHeard

/-- A supervised unit has expired (R163): the last step took line time past its expiry instant, and it is not silent
already. -/
def State.expired (s : State) (a : Nat) : Bool :=
  match s.testedLimit a with
  | none => false
  | some limit =>
    s.running && decide (s.lastHeard a + 8 * limit < s.now) &&
    ((s.trainOf a).isSome || !(s.supervision a).silent)

/-- A silence expiry handed to the owner of the unit (R163). -/
def State.expire (s : State) (a : Nat) : State :=
  let u := s.unit a
  match u.role with
  | .train => s.loseTrain u.index
  | .substation =>
    let s := s.setSupervision a { s.supervision a with silent := true }
    (s.silenceSubstation u.index).raiseOwn 7 (substationAt u.index) .timingUnit
  | .paUnit =>
    let s := s.setSupervision a { s.supervision a with silent := true }
    (s.zonesOf a).foldl (fun s k => s.enterFault k .silence .timingUnit) s
  | .unused | .display | .station => s

/-! ## Starting and stopping (R165, R198, R199) -/

/-- The silence timer of an address starts afresh if the unit is supervised (R165). -/
def State.restartTimer (s : State) (a : Nat) : State := if (s.silenceLimit a).isSome then s.refresh a else s

/-- Every supervised unit's silence timer starts afresh (R165). -/
def State.restartTimers (s : State) : State := (s.cls.units.map Prod.fst).foldl State.restartTimer s

/-- The cells that are pending or differ from what was sent (R198). -/
def State.cellsToSend (s : State) : List Nat :=
  s.loadedPlatforms.filter (fun p => (s.plat p).cellPending || decide ((s.plat p).cellNow ≠ (s.plat p).cellSent))

/-- An acknowledgement deadline that was set at the last line time is reached at START OPERATION (R158). -/
def State.wakeDeadline (s : State) (i : Nat) : State :=
  match s.incident i with
  | none => s
  | some v =>
    if v.deadline = some Config.unreached then s.setIncident i (some { v with deadline := some Config.maxTime }) else s

/-- Every deadline that waits for START OPERATION (R158). -/
def State.wakeDeadlines (s : State) : State := (List.range Config.entries).foldl State.wakeDeadline s

/-- START OPERATION (R198). DESIGN CHOICE (log entry 40): the cells are sent by ascending platform; R198 gives no order. -/
def State.startOp (s : State) : State :=
  let s := (s.setHnd { s.hnd with op := .running }).restartTimers.wakeDeadlines.retakeLocks
  s.cellsToSend.foldl State.tryCell s

/-- STOP OPERATION at the timing unit (R165). -/
def Timing.stopped (t : Timing) : Timing :=
  { t.noSlew with waiting := false, displayDue := false, publishDue := false }

/-- STOP OPERATION at the regulator (R16, R45). -/
def State.stopRegulator (s : State) : State :=
  let s := (List.range Config.slots).foldl (fun s t => s.modSlot t Slot.stopped) s
  (List.range Config.platforms).foldl (fun s p => s.modPlat p Platform.stopped) s

/-- STOP OPERATION (R199): every block tears down its service, and the waiting outcomes are sent (R50). DESIGN CHOICE (log entry
40): the SECTION NOTICEs of R73 join the console port's normal queue before the CALL OUTCOMES telegrams of R50, and the PA ABORTs
of R157 go out by ascending zone; the rules give no order. -/
def State.stopOp (s : State) : State :=
  let s := s.setTim s.tim.stopped
  let s := s.stopRegulator.stopPower
  let s := s.loadedZones.foldl State.stopZone s
  (s.setHnd { s.hnd with op := .configuring }).flushOutcomes Config.outcomeCap

/-! ## SET CLOCK (R159) -/

/-- The acknowledgement deadline of an ACTIVE-UNACK incident is renewed (R159). The part is CONFIGURING, so START OPERATION
reaches a deadline of 1,048,575 at a line time of 1,048,575 (R158). -/
def State.renewDeadline (s : State) (i : Nat) : State :=
  match s.incident i with
  | none => s
  | some v =>
    if v.st = .activeUnack then s.setIncident i (some { v with deadline := some (after s.now (8 * (s.kind v.kind).ackLimit)) })
    else s

/-- SET CLOCK (R159). -/
def State.setClockTo (s : State) (time : Nat) : State :=
  let s := s.setTim { s.tim.noSlew with lineTime := time, clockSet := true }
  let s := (List.range Config.platforms).foldl (fun s p => s.modPlat p (fun pl => { pl with lastSend := 0 })) s
  let s := s.setReg { s.reg with outcomes := s.reg.outcomes.map (fun o => { o with entered := time }) }
  (List.range Config.entries).foldl State.renewDeadline s

end Sys2Proof.Machine
end

