-- ==== Sys2Proof/Machine/Operands.lean ====
section
/-! DEFINITION. Payloads: the fields of the field telegrams and of the requests, read from the bytes as Tables 11-4 to 11-7 and
R189 lay them out. `none` is a payload whose length its layout does not allow; values are judged by the owners. -/

namespace Sys2Proof.Machine

/-! ## Plain fields -/

/-- An optional number of one byte. -/
def opt8 (b : Byte) : Option Nat := if b = 0xFF#8 then none else some b.toNat
/-- An optional number of two bytes. -/
def opt16 (h l : Byte) : Option Nat := if of16 h l = 65535 then none else some (of16 h l)
/-- A flag byte: bit 0, and no other bit (R189). -/
def flagOf (b : Byte) : Option Bool := if b = 0#8 then some false else if b = 1#8 then some true else none

/-- No payload. -/
def parse0 : List Byte → Option Unit
  | [] => some ()
  | _ => none
/-- One byte. -/
def parse1 : List Byte → Option Nat
  | [a] => some a.toNat
  | _ => none
/-- One number of two bytes. -/
def parseWord : List Byte → Option Nat
  | [h, l] => some (of16 h l)
  | _ => none
/-- A line time. -/
def parseTime : List Byte → Option Nat
  | [h, m, l] => some (of24 h m l)
  | _ => none
/-- A signed byte (SLEW CLOCK, R160). -/
def parseSigned : List Byte → Option Int
  | [a] => some (ofI8 a)
  | _ => none
/-- Two bytes, a number each (SET PLATFORM MODE, R195). -/
def parse2 : List Byte → Option (Nat × Nat)
  | [a, b] => some (a.toNat, b.toNat)
  | _ => none

/-! ## Field telegrams -/

/-- ARRIVED (Table 11-4): platform and trip. -/
def parseArrived : List Byte → Option (Nat × Nat)
  | [p, h, l] => some (p.toNat, of16 h l)
  | _ => none

/-- FRAME DONE and PA BUSY (R144, R146): zone, entry tag, frame index. -/
def parseAnswer : List Byte → Option (Nat × Nat × Nat)
  | [z, t, i] => some (z.toNat, t.toNat, i.toNat)
  | _ => none

/-- PA FAULT and PA READY (R151): a zone, or absent. -/
def parseZone : List Byte → Option (Option Nat)
  | [z] => some (opt8 z)
  | _ => none

/-- One entry of a FEEDER REPORT (Table 11-5). DESIGN CHOICE (log entry 12): Table 11-5 gives bits 7–2 of the flag byte as 0
and R53 is silent on another value; the model reads bits 0 and 1 and takes the entry whatever the others are. -/
def reportEntry (n flags h l : Byte) : ReportEntry :=
  { number := n.toNat, kw := ofI16 h l, breaker := if flags.getLsbD 0 then .closed else .opened,
    protection := flags.getLsbD 1 }

/-- Whole entries of a FEEDER REPORT. -/
def parseEntries : List Byte → Option (List ReportEntry)
  | [] => some []
  | n :: f :: h :: l :: rest => (parseEntries rest).map (fun es => reportEntry n f h l :: es)
  | _ => none

/-- FEEDER REPORT: 1 to 8 entries of 4 bytes (R53, Table 11-5). -/
def parseReport (b : List Byte) : Option (List ReportEntry) :=
  if 1 ≤ b.length ∧ b.length ≤ 32 then parseEntries b else none

/-! ## Enumerated fields (R189) -/

def roleOf : Nat → Option Role
  | 0 => some .unused | 1 => some .train | 2 => some .substation | 3 => some .paUnit | 4 => some .display
  | 5 => some .station | _ => none

def policyOf : Nat → Option Policy
  | 0 => some .pass | 1 => some .act | 2 => some .both | 3 => some .drop | _ => none

def modeOf : Nat → Option Mode
  | 0 => some .off | 1 => some .timetable | 2 => some .headway | _ => none

def locTypeOf : Nat → Option LocType
  | 0 => some .train | 1 => some .sect | 2 => some .platform | 3 => some .station | 4 => some .substation
  | 5 => some .zone | 6 => some .line | _ => none

/-- The clear privileges, in the order Table 5-1 lists them. -/
def clearPrivOf : Nat → Option Priv
  | 0 => some .dispatch | 1 => some .power | 2 => some .supervisor | _ => none

/-- The slot markers, in the order of R124. -/
def markerOf : Nat → Option Marker
  | 0 => some .dest | 1 => some .platform | 2 => some .late | 3 => some .next | 4 => some .place | 5 => some .arg1
  | 6 => some .arg2 | 7 => some .name | _ => none

/-! ## Loads -/

/-- LOAD CONSOLE (R169): an entry, and an address with a privilege set or the value empty. -/
structure ConsoleLoad where
  entry : Nat
  content : Option (Nat × Nat)
  deriving DecidableEq, Repr

def parseConsole : List Byte → Option ConsoleLoad
  | [e, h, l] => if of16 h l = 65535 then some { entry := e.toNat, content := none } else none
  | [e, h, l, p] => if of16 h l = 65535 then none else some { entry := e.toNat, content := some (of16 h l, p.toNat) }
  | _ => none

/-- LOAD UNIT (R167). -/
structure UnitLoad where
  addr : Nat
  role : Nat
  index : Nat
  policy : Nat
  silence : Option Nat
  deriving DecidableEq, Repr

def parseUnit : List Byte → Option UnitLoad
  | [h, l, r, i, p, c] => some { addr := of16 h l, role := r.toNat, index := i.toNat, policy := p.toNat, silence := opt8 c }
  | _ => none

/-- LOAD STATION (R123): station and name code. -/
def parseStation : List Byte → Option (Nat × Nat)
  | [n, h, l] => some (n.toNat, of16 h l)
  | _ => none

/-- LOAD PLATFORM (R194, Table 1-4). -/
structure PlatformLoad where
  platform : Nat
  station : Nat
  display : Nat
  sect : Nat
  zones : List Nat
  displayAddr : Nat
  mode : Nat
  hmax : Nat
  early : Nat
  lateLimit : Nat
  lapse : Nat
  deriving DecidableEq, Repr

def parsePlatform : List Byte → Option PlatformLoad
  | p :: st :: d :: k :: n :: rest =>
    match rest.drop n.toNat with
    | [ah, al, m, hm, e, lh, ll, ph, pl] =>
      some { platform := p.toNat, station := st.toNat, display := d.toNat, sect := k.toNat,
             zones := (rest.take n.toNat).map BitVec.toNat, displayAddr := of16 ah al, mode := m.toNat,
             hmax := hm.toNat, early := e.toNat, lateLimit := of16 lh ll, lapse := of16 ph pl }
    | _ => none
  | _ => none

/-- LOAD SECTION (R52): section, cap, window. -/
def parseSection : List Byte → Option (Nat × Nat × Nat)
  | [k, h, l, w] => some (k.toNat, of16 h l, w.toNat)
  | _ => none

/-- LOAD FEEDER (R51): feeder, substation, feeder number, section. -/
def parseFeeder : List Byte → Option (Nat × Nat × Nat × Nat)
  | [i, s, n, k] => some (i.toNat, s.toNat, n.toNat, k.toNat)
  | _ => none

/-- LOAD CLASSES (R195): the demands, the silence classes, the interval. -/
structure ClassLoad where
  demands : Nat × Nat × Nat × Nat
  silences : Nat × Nat × Nat × Nat
  interval : Nat
  deriving DecidableEq, Repr

def parseClasses : List Byte → Option ClassLoad
  | [h0, l0, h1, l1, h2, l2, h3, l3, c0, c1, c2, c3, i] =>
    some { demands := (of16 h0 l0, of16 h1 l1, of16 h2 l2, of16 h3 l3),
           silences := (c0.toNat, c1.toNat, c2.toNat, c3.toNat), interval := i.toNat }
  | _ => none

/-! ### Effect templates (R89) -/

/-- An effect template read from the wire: the template, or `none` in place of an invalid one. -/
abbrev WireTemplate := Option EffectTemplate

/-- The bytes of a parameter: none, a cap fraction, or the four of an ANNOUNCE (R89). An unknown type has no parameter: it is
a value out of range, which the owner refuses (R190 step 4, log entry 25). -/
def typeOfBytes : Nat → List Byte → Option (Option EffectType × List Byte)
  | 0, b => some (some .isolate, b)
  | 1, [] => none
  | 1, f :: b => some (if f.toNat ≤ 8 then some (.cap f.toNat) else none, b)
  | 2, b => some (some .hold, b)
  | 3, b => some (some .headway, b)
  | 4, t :: c :: r :: l :: b =>
    some (match flagOf l with
      | none => none
      | some lock =>
        if t.toNat < 128 ∧ 1 ≤ c.toNat ∧ c.toNat ≤ 4 ∧ 1 ≤ r.toNat ∧ r.toNat ≤ 3 then
          some (.announce t.toNat c.toNat r.toNat lock) else none, b)
  | 4, _ => none
  | _, b => some (none, b)

/-- The selector's bytes: LOCATION SECTION, LOCATION PLATFORMS, LOCATION ZONES, or EXPLICIT with its range (R89). -/
def selectorOfBytes : List Byte → Option (Option Selector × List Byte)
  | c :: b =>
    if c = 3#8 then match b with
      | f :: l :: b => some (some (.explicit f.toNat l.toNat), b)
      | _ => none
    else some (if c = 0#8 then some .locationSection else if c = 1#8 then some .locationPlatforms
               else if c = 2#8 then some .locationZones else none, b)
  | [] => none

/-- A selector fits a target type, its EXPLICIT range in order and in range (R89). -/
def Selector.fits : Selector → TargetType → Bool
  | .locationSection, t => decide (t = .sections)
  | .locationPlatforms, t => decide (t = .platforms)
  | .locationZones, t => decide (t = .zones)
  | .explicit first last, t => decide (first ≤ last) && decide (last < t.count)

/-- A valid template of its parts (R89). -/
def validTemplate : Option EffectType → Option Selector → WireTemplate
  | some t, some s => if s.fits t.target then some { typ := t, sel := s } else none
  | _, _ => none

/-- One effect template: type, selector, parameter (R89). -/
def parseTemplate1 : List Byte → Option (WireTemplate × List Byte)
  | [] => none
  | t :: b => match selectorOfBytes b with
    | none => none
    | some (sel, b) => match typeOfBytes t.toNat b with
      | none => none
      | some (typ, b) => some (validTemplate typ sel, b)

/-- `n` effect templates and the bytes after them. -/
def parseTemplates : Nat → List Byte → Option (List WireTemplate × List Byte)
  | 0, b => some ([], b)
  | n + 1, b => match parseTemplate1 b with
    | none => none
    | some (t, b) => match parseTemplates n b with
      | none => none
      | some (ts, b) => some (t :: ts, b)

/-- All templates, when every one of them is valid. -/
def allValid : List WireTemplate → Option (List EffectTemplate)
  | [] => some []
  | none :: _ => none
  | some t :: l => (allValid l).map (fun ts => t :: ts)

/-- LOAD KIND (R90). -/
structure KindLoad where
  kind : Nat
  present : Option Bool
  severity : Nat
  ackLimit : Nat
  selfClearing : Option Bool
  clearPriv : Nat
  templates : List WireTemplate
  clearance : Option Nat
  clearanceCls : Option Nat
  deriving DecidableEq, Repr

def parseKind : List Byte → Option KindLoad
  | k :: p :: sev :: ah :: al :: sc :: cp :: n :: rest =>
    match parseTemplates n.toNat rest with
    | none => none
    | some (ts, tail) =>
      let base : KindLoad := { kind := k.toNat, present := flagOf p, severity := sev.toNat, ackLimit := of16 ah al,
                               selfClearing := flagOf sc, clearPriv := cp.toNat, templates := ts, clearance := none,
                               clearanceCls := none }
      match tail with
      | [c] => if c = 0xFF#8 then some base else none
      | [c, g] => if c = 0xFF#8 then none else some { base with clearance := some c.toNat, clearanceCls := some g.toNat }
      | _ => none
  | _ => none

/-- A template element (R189): a code, or 0xFF00 plus the marker's position; `none` in place of neither. -/
def elementOf (n : Nat) : Option Element :=
  if 1 ≤ n ∧ n ≤ 3999 then some (.code n)
  else if 0xFF00 ≤ n then (markerOf (n - 0xFF00)).map .marker else none

/-- Elements of two bytes each. -/
def parseElements : List Byte → Option (List (Option Element))
  | [] => some []
  | h :: l :: rest => (parseElements rest).map (fun es => elementOf (of16 h l) :: es)
  | _ => none

/-- LOAD TEMPLATE (R124): template index and its elements. -/
def parseTemplate : List Byte → Option (Nat × List (Option Element))
  | t :: n :: rest => if rest.length = 2 * n.toNat then (parseElements rest).map (fun es => (t.toNat, es)) else none
  | _ => none

/-- LOAD ZONE (R137). -/
structure ZoneLoad where
  zone : Nat
  addr : Nat
  station : Nat
  platform : Option Nat
  deriving DecidableEq, Repr

def parseZoneLoad : List Byte → Option ZoneLoad
  | [z, h, l, st, p] => some { zone := z.toNat, addr := of16 h l, station := st.toNat, platform := opt8 p }
  | _ => none

/-! ## Service requests -/

/-- BIND TRAIN (R3). -/
structure BindReq where
  slot : Nat
  addr : Nat
  trip : Nat
  cls : Nat
  deriving DecidableEq, Repr

def parseBind : List Byte → Option BindReq
  | [t, ah, al, rh, rl, c] => some { slot := t.toNat, addr := of16 ah al, trip := of16 rh rl, cls := c.toNat }
  | _ => none

/-- One record of APPEND CALLS (Table 11-7), as R18 writes it. -/
def callOfBytes (t0 t1 d a0 a1 a2 s0 s1 s2 m : Byte) : CallRecord :=
  { trip := of16 t0 t1, dest := d.toNat, schedArr := of24 a0 a1 a2, schedDep := of24 s0 s1 s2, dmin := m.toNat }

/-- Whole records of 10 bytes. -/
def parseCalls : List Byte → Option (List CallRecord)
  | [] => some []
  | t0 :: t1 :: d :: a0 :: a1 :: a2 :: s0 :: s1 :: s2 :: m :: rest =>
    (parseCalls rest).map (fun rs => callOfBytes t0 t1 d a0 a1 a2 s0 s1 s2 m :: rs)
  | _ => none

/-- APPEND CALLS (R19, 11.5): a platform, a record count 1–4, the records. -/
def parseAppend : List Byte → Option (Nat × List CallRecord)
  | p :: k :: rest =>
    if 1 ≤ k.toNat ∧ k.toNat ≤ 4 ∧ rest.length = 10 * k.toNat then (parseCalls rest).map (fun rs => (p.toNat, rs)) else none
  | _ => none

/-- RAISE INCIDENT (R96). -/
structure RaiseReq where
  kind : Nat
  locType : Nat
  locIdx : Nat
  severity : Option Nat
  templates : List WireTemplate
  deriving DecidableEq, Repr

def parseRaise : List Byte → Option RaiseReq
  | k :: t :: i :: sev :: n :: rest => match parseTemplates n.toNat rest with
    | some (ts, []) => some { kind := k.toNat, locType := t.toNat, locIdx := i.toNat, severity := opt8 sev, templates := ts }
    | _ => none
  | _ => none

/-- ANNOUNCE (R141). -/
structure AnnounceReq where
  template : Nat
  cls : Nat
  repeats : Nat
  arg1 : Nat
  arg2 : Nat
  zones : List Nat
  deriving DecidableEq, Repr

def parseAnnounce : List Byte → Option AnnounceReq
  | t :: c :: r :: a1 :: a2 :: n :: rest =>
    if rest.length = n.toNat then
      some { template := t.toNat, cls := c.toNat, repeats := r.toNat, arg1 := a1.toNat, arg2 := a2.toNat,
             zones := rest.map BitVec.toNat }
    else none
  | _ => none

/-- ARM ANNOUNCEMENT (R134). -/
structure ArmReq where
  platform : Nat
  template : Option Nat
  cls : Nat
  repeating : Option Bool
  deriving DecidableEq, Repr

def parseArm : List Byte → Option ArmReq
  | [p, t, c, f] => some { platform := p.toNat, template := opt8 t, cls := c.toNat, repeating := flagOf f }
  | _ => none

/-- CANCEL CALL (R20): platform and trip. -/
def parseCancel : List Byte → Option (Nat × Nat)
  | [p, h, l] => some (p.toNat, of16 h l)
  | _ => none

/-- QUERY (R197): record type, identifier, part number. DESIGN CHOICE (log entry 22): the identifier is two bytes for every
record type; R189 sizes a number by its range, and the ranges of the types differ. -/
def parseQuery : List Byte → Option (Nat × Nat × Nat)
  | [t, h, l, n] => some (t.toNat, of16 h l, n.toNat)
  | _ => none

end Sys2Proof.Machine
end

