-- ==== Sys2Proof/Machine/Records.lean ====
section
/-! DEFINITION. The records that QUERY returns (R197), as bytes by R189. A field that may be absent is all ones of its width
(R1), and a field that its table gives only for some values of an earlier one stands only for those values (log entry 22). -/

namespace Sys2Proof.Machine

/-- A list of items: a count and the items (R189). -/
def listBytes {α : Type} (f : α → List Byte) (l : List α) : List Byte := u8 l.length ++ l.flatMap f

/-- A stored instant as a line time: one that is set at the last line time is 1,048,575 (3.1, `Config.unreached`). -/
def instantBytes (t : Option Nat) : List Byte := o24 (t.map (min Config.maxTime))

/-- Stay record (R25): arrival, hold given, power wait, and the flags REDUCED START and INCIDENT HELD. -/
def Stay.bytes (y : Stay) : List Byte :=
  u24 y.arrival ++ u16 y.hold ++ u16 (min y.wait 65535) ++ u8 (bits [y.reducedStart, y.incidentHeld])

/-- The fields of Table 4-1 in its order: condition, section, demand, request instant, release-instant value, amount, expiry,
reduced flag. -/
def poolBytes (condition : Nat) (sect demand instant rel amount expiry : Option Nat) (reduced : Option Bool) : List Byte :=
  u8 condition ++ o8 sect ++ o16 demand ++ o24 instant ++ o24 rel ++ o16 amount ++ instantBytes expiry ++
  o8 (reduced.map Bool.toNat)

/-- Pool entry (Table 4-1): every field, an absent one as all ones (R1). -/
def PoolEntry.bytes : PoolEntry → List Byte
  | .free => poolBytes 0 none none none none none none none
  | .queued k d instant rel => poolBytes 1 (some k) (some d) (some instant) rel none none none
  | .reservation k instant amount expiry reduced =>
    poolBytes 2 (some k) none (some instant) none (some amount) (some expiry) (some reduced)

/-- The train record: Table 1-1, the stay record when one exists (R25), the pool entry. -/
def State.trainRecord (s : State) (t : Nat) : List Byte :=
  let sl := s.slot t
  o16 sl.addr ++ u16 sl.trip ++ u8 sl.cls ++ u8 sl.st.code ++ o8 sl.platform ++ o8 sl.sect ++ oi16 sl.lateness ++
  u24 sl.lastHeard ++ instantBytes sl.release ++ o24 sl.relBase ++ flag sl.consolePermit ++ flag sl.noTraction ++
  (match sl.stay with | none => [] | some y => y.bytes) ++ (s.pool t).bytes

/-- A call record (Table 1-5). -/
def CallRecord.bytes (r : CallRecord) : List Byte :=
  u16 r.trip ++ u8 r.dest ++ u24 r.schedArr ++ u24 r.schedDep ++ u8 r.dmin ++ u8 r.disp.code ++ o8 r.slot ++
  o24 r.arrival ++ o24 r.departure ++ oi16 r.lateness ++ u16 r.hold ++ u16 (min r.wait 65535) ++
  u8 (bits [r.flags.noPermit, r.flags.consolePermit, r.flags.noDoorsClosed, r.flags.departureUnseen, r.flags.reducedStart,
            r.flags.incidentHeld])

/-- The platform record: loaded, Table 1-4, the running state (R17), held flag and effective mode, and the ring. DESIGN CHOICE
(log entry 22): the reference to the ACTIVE call is the ring position of its record, one byte, and all ones when absent; R189
codes no reference. -/
def State.platformRecord (s : State) (p : Nat) : List Byte :=
  let pl := s.plat p
  flag pl.loaded ++ u8 pl.station ++ u8 pl.display ++ u8 pl.sect ++ listBytes u8 pl.zones ++ u16 pl.displayAddr ++
  u8 pl.mode.code ++ u8 pl.hmax ++ u8 pl.early ++ u16 pl.lateLimit ++ u16 pl.lapse ++
  o24 pl.lastDep ++ o24 pl.lastSched ++ o8 pl.active ++ cellBytes pl.cellNow ++ cellBytes pl.cellSent ++
  u24 pl.lastSend ++ flag pl.cellPending ++ flag (s.platHeld p) ++ u8 (s.effectiveMode p).code ++
  u8 pl.head ++ listBytes CallRecord.bytes pl.ring

/-- The queue of a section, each slot with its demand and request instant (R75). -/
def State.queueItem (s : State) (t : Nat) : List Byte :=
  match s.pool t with
  | .queued _ d instant _ => u8 t ++ u16 d ++ u24 instant
  | _ => u8 t ++ u16 0 ++ u24 0

/-- The reservations on a section: slot, amount, expiry, reduced flag (R75). DESIGN CHOICE (log entry 22): R75 and R197 give
them no order; the model lists them by ascending slot. -/
def State.reservationItems (s : State) (k : Nat) : List (List Byte) :=
  (List.range Config.slots).filterMap (fun t => match s.pool t with
    | .reservation k' _ amount expiry reduced =>
      if k' = k then some (u8 t ++ u16 amount ++ instantBytes (some expiry) ++ flag reduced) else none
    | _ => none)

/-- The section record: loaded, the fields of R75, and the interlock and cap fraction (R110). -/
def State.sectionRecord (s : State) (k : Nat) : List Byte :=
  let v := s.sect k
  flag v.loaded ++ u8 v.st.code ++ u16 v.cap ++ u16 v.ceff ++ i16 v.m ++ flag v.measLost ++ u16 v.reserved ++
  listBytes s.queueItem v.queue ++ listBytes id (s.reservationItems k) ++ flag (s.interlocked k) ++ u8 (s.fraction k)

/-- Who raised an incident (Table 5-3). DESIGN CHOICE (log entry 22): no table gives its bytes; the model takes 0–4 for the
blocks in the order in which Table 5-3 lists them, and 5 followed by the entry for a console. -/
def Raiser.bytes : Raiser → List Byte
  | .regulator => u8 0
  | .powerUnit => u8 1
  | .timingUnit => u8 2
  | .classifier => u8 3
  | .composer => u8 4
  | .console e => u8 5 ++ u8 e

/-- The parameter of an effect (R89). -/
def EffectType.paramBytes : EffectType → List Byte
  | .isolate | .hold | .headway => []
  | .cap f => u8 f
  | .announce t c r l => u8 t ++ u8 c ++ u8 r ++ flag l

/-- An effect record: type, target list, parameter (R91). -/
def Effect.bytes (e : Effect) : List Byte := u8 e.typ.code ++ listBytes u8 e.targets ++ e.typ.paramBytes

/-- The incident record (R91, Table 5-3); the acknowledgement deadline stands in ACTIVE-UNACK only. -/
def Incident.bytes (v : Incident) : List Byte :=
  u16 v.number ++ u8 v.kind ++ locBytes v.loc ++ u8 v.severity ++ u8 v.st.code ++ v.raiser.bytes ++ u24 v.raised ++
  (if v.st = .activeUnack then instantBytes v.deadline else []) ++ u8 v.occurrences ++ o8 v.ackBy ++ listBytes Effect.bytes v.effects

/-- An incident tag, number and location, or its absence (Table 8-2, R1). -/
def tagBytes : Option IncTag → List Byte
  | none => List.replicate 4 0xFF#8
  | some g => u16 g.number ++ locBytes g.loc

/-- An arrival context (R127): the slot, and the call's trip and destination or their absence. -/
def ArrivalCtx.bytes (a : ArrivalCtx) : List Byte := u8 a.slot ++ o16 (a.call.map Prod.fst) ++ o8 (a.call.map Prod.snd)

/-- A zone queue entry (Table 8-2); the arrival context stands for armed entries only. -/
def QEntry.bytes (e : QEntry) : List Byte :=
  u8 e.template ++ u8 e.cls ++ u8 e.repeats ++ u8 e.arg1 ++ u8 e.arg2 ++ originBytes e.origin ++ tagBytes e.tag ++
  (match e.arrival with | none => [] | some a => a.bytes) ++ u8 e.st.code ++ u8 e.plays ++ u8 e.savedIdx ++ u24 e.suspended ++ u8 e.busy

/-- A composition buffer in the zone record (R132, Table 8-1): its codes and its truncation flag. DESIGN CHOICE (log entry 22):
its code count is the count byte of its list of codes, and is not given a second time. -/
def Buffer.bytes (b : Buffer) : List Byte := listBytes u16 b.codes ++ flag b.trunc

/-- The outstanding frame: index, entry tag, queued or not, or its absence (Table 8-1, R1). -/
def outstandingBytes : Option Outstanding → List Byte
  | none => List.replicate 3 0xFF#8
  | some o => u8 o.idx ++ u8 o.tag ++ flag o.queued

/-- The outstanding frame has been queued. -/
def Zone.frameQueued (z : Zone) : Bool := match z.outstanding with | none => false | some o => o.queued

/-- The notice slot (Table 8-1): 0 when idle, otherwise 1 and the pending notice (R156). -/
def slotBytes : Option ZoneNotice → List Byte
  | none => u8 0
  | some n => u8 1 ++ n.fields

/-- The entries in selection order: by falling class, then enqueue order (R142). -/
def Zone.selectionOrder (z : Zone) : List QEntry :=
  [4, 3, 2, 1].flatMap (fun c => z.queue.filter (fun e => decide (e.cls = c)))

/-- The zone record (R137, Table 8-1): the fault cause stands in FAULT only, the frame deadline while the outstanding frame
is queued, the gap end in GAP only. -/
def Zone.bytes (z : Zone) : List Byte :=
  flag z.loaded ++ o16 z.addr ++ u8 z.station ++ o8 z.platform ++ u8 z.st.code ++
  (if z.st = .fault then o8 (z.cause.map FaultCause.code) else []) ++
  lockBytes z.lock ++ u24 z.lockInstant ++ listBytes QEntry.bytes z.selectionOrder ++ z.playBuf.bytes ++ z.suspBuf.bytes ++
  outstandingBytes z.outstanding ++ (if z.frameQueued then instantBytes z.deadline else []) ++ u8 z.expiryRun ++
  (if z.st = .gap then instantBytes z.gapEnd else []) ++ u8 z.tagCounter ++ flag z.abort.isSome ++ slotBytes z.notice

/-- The record that QUERY names, or the reason of its refusal (R197). -/
def State.record (s : State) (typ ident : Nat) : Except Reason (List Byte) :=
  match typ with
  | 0 => if ident < Config.slots then .ok (s.trainRecord ident) else .error .badArgument
  | 1 => if ident < Config.platforms then .ok (s.platformRecord ident) else .error .badArgument
  | 2 => if ident < Config.sections then .ok (s.sectionRecord ident) else .error .badArgument
  | 3 =>
    if ident = 0 then .error .badArgument
    else match s.entryOf ident with
      | none => .error .notFound
      | some i => match s.incident i with
        | none => .error .notFound
        | some v => .ok v.bytes
  | 4 => if ident < Config.zones then .ok (s.zone ident).bytes else .error .badArgument
  | _ => .error .badArgument

/-- The number of 48-byte parts of a record (R197). -/
def parts (record : List Byte) : Nat := (record.length + 47) / 48

/-- Part `n` of a record. -/
def part (record : List Byte) (n : Nat) : List Byte := (record.drop (48 * n)).take 48

/-- The STATUS result (Table 12-5). -/
def State.statusBytes (s : State) : List Byte :=
  let ports : PortState → List Byte := fun v =>
    u16 v.crcErrors ++ u16 v.framingErrors ++ u16 v.inboundOverflows ++ u16 v.outboundDiscards ++ u16 v.linkDownEvents
  u8 (if s.running then 1 else 0) ++ u8 (bits [s.tim.clockSet, s.fieldPort.linkDown, s.consolePort.linkDown]) ++
  u24 s.now ++ i8 s.tim.slew ++ ports s.fieldPort ++ ports s.consolePort ++
  u16 s.cls.unknownSource ++ u16 s.cls.roleMismatch ++ u16 s.inc.overflow ++ u16 s.reg.outcomeLoss ++ u16 s.com.zoneDrops

/-- A port with its five counters read and cleared (R187, R196). -/
def PortState.clearCounters (v : PortState) : PortState :=
  { v with crcErrors := 0, framingErrors := 0, inboundOverflows := 0, outboundDiscards := 0, linkDownEvents := 0 }

/-- The fifteen counters are cleared (R196). -/
def State.clearCounters (s : State) : State :=
  { s with fieldPort := s.fieldPort.clearCounters, consolePort := s.consolePort.clearCounters,
           cls := { s.cls with unknownSource := 0, roleMismatch := 0 }, inc := { s.inc with overflow := 0 },
           reg := { s.reg with outcomeLoss := 0 }, com := { s.com with zoneDrops := 0 } }

end Sys2Proof.Machine
end

