-- ==== Sys2Proof/Machine/Management.lean ====
section
/-! DEFINITION. In-band management (chapter 12): the checks every request passes (R190 to R193), and the requests about the part
itself: STATUS, QUERY, START OPERATION, STOP OPERATION, SET CLOCK, SLEW CLOCK, and the answer to unknown kinds. -/

namespace Sys2Proof.Machine

/-- The outcome type of every command. -/
abbrev Next := Host.Outcome State Fault Refusal

/-- What an owner answers (R190 step 4): the state after it, the reason, the result. -/
abbrev Answer := State × Reason × List Byte

/-- A refusal with an empty result. -/
def refused (s : State) (r : Reason) : Answer := (s, r, [])
/-- ACCEPTED with a result. -/
def accepted (s : State) (result : List Byte) : Answer := (s, .accepted, result)

/-- The operating states that allow a request (Table 12-2). -/
inductive Admitted where
  | configuring | running | either
  deriving DecidableEq, Repr

def Admitted.here : Admitted → OpState → Bool
  | .configuring, op => decide (op = .configuring)
  | .running, op => decide (op = .running)
  | .either, _ => true

/-- A console holds the privilege of Table 12-1; `none` is any listed console. -/
def Sender.holds (c : Sender) : Option Priv → Bool
  | none => true
  | some p => c.privs.has p

/-- Steps 2 and 3 of R190, and the owner's answer. -/
def State.checked {α : Type} (s : State) (c : Sender) (priv : Option Priv) (adm : Admitted) (a : α)
    (owner : Sender → α → State → Answer) : Answer :=
  if !c.holds priv then refused s .notPermitted
  else if !adm.here s.hnd.op then refused s .wrongState
  else owner c a s

/-- The REPLY of an answer (R193). DESIGN CHOICE (log entry 40): it joins the console port's queues after the notices and
telegrams that the same request makes; R190 and R193 put them at one event and give no order. -/
def State.answer (c : Sender) (kind : Nat) (a : Answer) : State := a.1.sendReply (replyFrame c.addr kind a.2.1 a.2.2)

/-- The request at the front of the console FIFO, when its kind is `kind` (R175, R190): decoding, privilege, operating
state, owner, and one REPLY, as one event. The state is unchanged where the front frame is no such request. -/
def State.request {α : Type} (s : State) (kind : Nat) (priv : Option Priv) (adm : Admitted) (parse : List Byte → Option α)
    (owner : Sender → α → State → Answer) : State :=
  match s.front .console with
  | none => s
  | some f => match s.sender f.src with
    | none => s
    | some c =>
      if f.dst = Config.self ∧ f.kind = kind then
        s.take (fun s =>
          let s := s.pop .console
          match parse f.payload with
          | none => State.answer c kind (refused s .badArgument)
          | some a => State.answer c kind (s.checked c priv adm a owner))
      else s

/-! ## Unknown kinds (R190) -/

/-- UNKNOWN REQUEST (R190 step 1): BAD ARGUMENT. -/
def execUnknownRequest (s : State) : Next :=
  .next (match s.front .console with
    | none => s
    | some f => match s.sender f.src with
      | none => s
      | some c =>
        if f.dst = Config.self ∧ isRequestKind f.kind = false then
          s.take (fun s => State.answer c f.kind (refused (s.pop .console) .badArgument))
        else s)

/-! ## STATUS and QUERY (R196, R197) -/

def ownStatus (_c : Sender) (_a : Unit) (s : State) : Answer := accepted s.clearCounters s.statusBytes

def execStatus (s : State) : Next := .next (s.request 0xC0 (some .view) .either parse0 ownStatus)

def ownQuery (_c : Sender) (a : Nat × Nat × Nat) (s : State) : Answer :=
  match s.record a.1 a.2.1 with
  | .error r => refused s r
  | .ok bytes =>
    if a.2.2 < parts bytes then accepted s (u8 (parts bytes) ++ u8 a.2.2 ++ part bytes a.2.2)
    else (s, .badArgument, u8 (parts bytes))

def execQuery (s : State) : Next := .next (s.request 0xDE (some .view) .either parseQuery ownQuery)

/-! ## START OPERATION and STOP OPERATION (R198, R199) -/

def ownStart (_c : Sender) (_a : Unit) (s : State) : Answer :=
  if s.tim.clockSet then (let s := s.startOp; accepted s (u24 s.now)) else refused s .wrongState

def execStartOperation (s : State) : Next := .next (s.request 0xC1 (some .supervisor) .configuring parse0 ownStart)

def ownStop (_c : Sender) (_a : Unit) (s : State) : Answer := let s := s.stopOp; accepted s (u24 s.now)

def execStopOperation (s : State) : Next := .next (s.request 0xC2 (some .supervisor) .running parse0 ownStop)

/-! ## SET CLOCK and SLEW CLOCK (R159, R160) -/

def ownSetClock (_c : Sender) (time : Nat) (s : State) : Answer :=
  if Config.maxTime < time then refused s .badArgument
  else accepted (s.setClockTo time) (u24 s.now ++ u24 time)

def execSetClock (s : State) : Next := .next (s.request 0xC3 (some .supervisor) .configuring parseTime ownSetClock)

def ownSlew (_c : Sender) (offset : Int) (s : State) : Answer :=
  if offset < -64 ∨ 64 < offset then refused s .badArgument
  else accepted (s.setTim { s.tim.noSlew with slew := offset }) (i8 s.tim.slew)

def execSlewClock (s : State) : Next := .next (s.request 0xC4 (some .supervisor) .running parseSigned ownSlew)

end Sys2Proof.Machine
end

