-- ==== Sys2Proof/Machine/Loads.lean ====
section
/-! DEFINITION. The load requests: LOAD CONSOLE (R169), LOAD UNIT (R167), LOAD STATION (R123), LOAD PLATFORM (R194), LOAD
SECTION (R52), LOAD FEEDER (R51), LOAD CLASSES (R195), LOAD KIND (R90), LOAD TEMPLATE (R124), LOAD ZONE (R137). -/

namespace Sys2Proof.Machine

/-! ## Classifier -/

/-- An entry of the console table other than `e` holds the address. -/
def State.consoleHolds (s : State) (e a : Nat) : Bool :=
  (List.range Config.consoles).any (fun j => decide (j ≠ e) &&
    (match s.console j with | none => false | some c => decide (c.addr = a)))

/-- Some entry of the console table holds the address (R3, R167). -/
def State.anyConsole (s : State) (a : Nat) : Bool :=
  (List.range Config.consoles).any (fun j => match s.console j with | none => false | some c => decide (c.addr = a))

/-- Some entry of the console table holds SUPERVISOR (R169). -/
def State.anySupervisor (s : State) : Bool :=
  (List.range Config.consoles).any (fun j => match s.console j with | none => false | some c => c.privs.supervisor)

def ownLoadConsole (_c : Sender) (a : ConsoleLoad) (s : State) : Answer :=
  let entry : Option ConsoleEntry := a.content.map (fun x => { addr := x.1, privs := PrivSet.ofByte x.2 })
  let valid := match a.content with
    | none => true
    | some x => decide (1 ≤ x.1) && decide (x.1 ≤ 4093) && decide (1 ≤ x.2) && decide (x.2 ≤ 15)
  let s' := s.setConsole a.entry entry
  if !(decide (a.entry < Config.consoles) && valid) || !s'.anySupervisor then refused s .badArgument
  else match a.content with
    | none => accepted s' []
    | some x => if s.consoleHolds a.entry x.1 || decide ((s.unit x.1).role ≠ .unused) then refused s .busy else accepted s' []

def execLoadConsole (s : State) : Next := .next (s.request 0xC6 (some .supervisor) .configuring parseConsole ownLoadConsole)

/-- The index lies in the range of the role (Table 10-1). -/
def Role.indexOk : Role → Nat → Bool
  | .unused, i => decide (i < Config.slots)
  | .train, i => decide (i < Config.slots)
  | .substation, i => decide (i < Config.substations)
  | .paUnit, i => decide (i = 0)
  | .display, i => decide (i = 0)
  | .station, i => decide (i < Config.stations)

/-- The entry that LOAD UNIT carries, when its values are in range (R167 case 1). -/
def UnitLoad.entry (a : UnitLoad) : Option UnitEntry :=
  match roleOf a.role, policyOf a.policy with
  | some r, some p =>
    if decide (1 ≤ a.addr) && decide (a.addr ≤ 4093) && decide (r ≠ .train) && r.indexOk a.index &&
       (match a.silence with | none => true | some c => decide (c < 4)) then
      some { role := r, index := a.index, policy := p, silence := a.silence } else none
  | _, _ => none

/-- A silence is ended under the old role and index when LOAD UNIT changes them (R162). -/
def State.endOldSilence (s : State) (a : Nat) (u : UnitEntry) : State :=
  let old := s.unit a
  if (s.supervision a).silent && (decide (old.role ≠ u.role) || decide (old.index ≠ u.index)) then
    (s.setSupervision a { s.supervision a with silent := false }).handSilenceEnd a old
  else s

def ownLoadUnit (_c : Sender) (a : UnitLoad) (s : State) : Answer :=
  match a.entry with
  | none => refused s .badArgument
  | some u =>
    if (s.unit a.addr).role = .train ∨ (u.role ≠ .unused ∧ s.anyConsole a.addr) then refused s .busy
    else accepted ((s.endOldSilence a.addr u).setUnit a.addr u) []

def execLoadUnit (s : State) : Next := .next (s.request 0xC7 (some .supervisor) .configuring parseUnit ownLoadUnit)

/-! ## Composer -/

def ownLoadStation (_c : Sender) (a : Nat × Nat) (s : State) : Answer :=
  if a.1 < Config.stations ∧ 1 ≤ a.2 ∧ a.2 ≤ 3999 then accepted (s.setStation a.1 (some a.2)) [] else refused s .badArgument

def execLoadStation (s : State) : Next := .next (s.request 0xC8 (some .supervisor) .configuring parseStation ownLoadStation)

/-- All elements, when every one of them is a code or a marker (R124). -/
def allElements : List (Option Element) → Option (List Element)
  | [] => some []
  | none :: _ => none
  | some e :: l => (allElements l).map (fun es => e :: es)

def ownLoadTemplate (_c : Sender) (a : Nat × List (Option Element)) (s : State) : Answer :=
  match allElements a.2 with
  | none => refused s .badArgument
  | some es =>
    if a.1 < Config.templates ∧ 1 ≤ es.length ∧ es.length ≤ 24 then accepted (s.setTemplate a.1 (some es)) []
    else refused s .badArgument

def execLoadTemplate (s : State) : Next := .next (s.request 0xCE (some .supervisor) .either parseTemplate ownLoadTemplate)

def ownLoadZone (_c : Sender) (a : ZoneLoad) (s : State) : Answer :=
  if a.zone < Config.zones ∧ 1 ≤ a.addr ∧ a.addr ≤ 4093 ∧ a.station < Config.stations ∧
     (∀ p, a.platform = some p → p < Config.platforms) then
    accepted (s.modZone a.zone (fun z => { z.atRest with
      loaded := true, addr := some a.addr, station := a.station, platform := a.platform })) []
  else refused s .badArgument

def execLoadZone (s : State) : Next := .next (s.request 0xCF (some .supervisor) .configuring parseZoneLoad ownLoadZone)

/-! ## Regulator -/

/-- A list names no value twice. -/
def noRepeats : List Nat → Bool
  | [] => true
  | a :: l => !l.contains a && noRepeats l

/-- The values of LOAD PLATFORM are in range (R194). -/
def PlatformLoad.ok (a : PlatformLoad) : Bool :=
  decide (a.platform < Config.platforms) && decide (a.station < Config.stations) && decide (a.sect < Config.sections) &&
  decide (1 ≤ a.display) && decide (a.display ≤ 99) &&
  decide (a.zones.length ≤ 2) && a.zones.all (fun k => decide (k < Config.zones)) && noRepeats a.zones &&
  decide (a.displayAddr ≤ 4093) && decide (a.hmax ≤ 240) && decide (a.early ≤ 120) && decide (a.lateLimit ≤ 900) &&
  decide (60 ≤ a.lapse) && decide (a.lapse ≤ 3600)

def ownLoadPlatform (_c : Sender) (a : PlatformLoad) (s : State) : Answer :=
  match modeOf a.mode with
  | none => refused s .badArgument
  | some m =>
    if a.ok then
      accepted ((s.modPlat a.platform (fun pl => { pl with
        loaded := true, station := a.station, display := a.display, sect := a.sect, zones := a.zones,
        displayAddr := a.displayAddr, mode := m, hmax := a.hmax, early := a.early, lateLimit := a.lateLimit,
        lapse := a.lapse })).recompute a.platform) []
    else refused s .badArgument

def execLoadPlatform (s : State) : Next := .next (s.request 0xC9 (some .supervisor) .configuring parsePlatform ownLoadPlatform)

/-! ## Power unit -/

/-- A section loaded with a cap and a window (R52), with the consequences of R60 should it leave ENERGISED. -/
def State.loadSection (s : State) (k cap window : Nat) : State :=
  let old := s.sect k
  let s := s.modSect k (fun v => { v with
    loaded := true, cap := cap, window := window, st := .unknown, attempts := 0, deadline := none, overCount := 0,
    underCount := 0, measLost := false, ceff := cap * s.fraction k / 8 })
  let s := (s.remeasure k).traction k old.st .unknown
  let s := if old.measLost then s.sectDue k old.st .measurementRestored else s
  s.reevaluate k

def ownLoadSection (_c : Sender) (a : Nat × Nat × Nat) (s : State) : Answer :=
  if a.1 < Config.sections ∧ a.2.1 ≤ 20000 ∧ 4 ≤ a.2.2 ∧ a.2.2 ≤ 60 then accepted (s.loadSection a.1 a.2.1 a.2.2) []
  else refused s .badArgument

def execLoadSection (s : State) : Next := .next (s.request 0xCA (some .supervisor) .configuring parseSection ownLoadSection)

/-- A feeder placed on a section (R51): both sections have M recomputed and are re-evaluated if it changed (R55). -/
def State.loadFeeder (s : State) (i sub number k : Nat) : State :=
  let old := s.feeder i
  let s := s.setFeeder i { loaded := true, substation := sub, number := number, sect := k, waiting := old.waiting }
  let s := if old.loaded ∧ old.sect ≠ k then (s.remeasure old.sect).reevaluate old.sect else s
  (s.remeasure k).reevaluate k

/-- Another loaded feeder carries the substation and the number (R51). -/
def State.feederTaken (s : State) (i sub number : Nat) : Bool :=
  (List.range Config.feeders).any (fun j => decide (j ≠ i) && (s.feeder j).loaded &&
    decide ((s.feeder j).substation = sub) && decide ((s.feeder j).number = number))

def ownLoadFeeder (_c : Sender) (a : Nat × Nat × Nat × Nat) (s : State) : Answer :=
  let (i, sub, number, k) := a
  if ¬ (i < Config.feeders ∧ sub < Config.substations ∧ number ≤ 7 ∧ k < Config.sections) ∨ ¬ (s.sect k).loaded then
    refused s .badArgument
  else if s.feederTaken i sub number then refused s .busy
  else if 4 ≤ ((s.feedersOf k).filter (fun j => decide (j ≠ i))).length then refused s .tableFull
  else accepted (s.loadFeeder i sub number k) []

def execLoadFeeder (s : State) : Next := .next (s.request 0xCB (some .supervisor) .configuring parseFeeder ownLoadFeeder)

/-- The values of LOAD CLASSES are in range (R195). -/
def ClassLoad.ok (a : ClassLoad) : Bool :=
  let d := a.demands
  let c := a.silences
  decide (d.1 ≤ 4000) && decide (d.2.1 ≤ 4000) && decide (d.2.2.1 ≤ 4000) && decide (d.2.2.2 ≤ 4000) &&
  decide (1 ≤ c.1) && decide (1 ≤ c.2.1) && decide (1 ≤ c.2.2.1) && decide (1 ≤ c.2.2.2) &&
  decide (c.1 ≤ 255) && decide (c.2.1 ≤ 255) && decide (c.2.2.1 ≤ 255) && decide (c.2.2.2 ≤ 255) &&
  decide (a.interval ≤ 60)

def ownLoadClasses (_c : Sender) (a : ClassLoad) (s : State) : Answer :=
  if a.ok then
    let d := a.demands
    let c := a.silences
    accepted ((s.setPow { s.pow with demand0 := d.1, demand1 := d.2.1, demand2 := d.2.2.1, demand3 := d.2.2.2 }).setTim
      { s.tim with silence0 := c.1, silence1 := c.2.1, silence2 := c.2.2.1, silence3 := c.2.2.2, interval := a.interval }) []
  else refused s .badArgument

def execLoadClasses (s : State) : Next := .next (s.request 0xCC (some .supervisor) .either parseClasses ownLoadClasses)

/-! ## Incident unit -/

/-- The kinds of Table 5-2, the part's own. -/
def ownKind (k : Nat) : Bool := decide (1 ≤ k) && decide (k ≤ 8)

/-- The kind entry that LOAD KIND carries, when it is valid (R90); `old` is the entry it replaces, whose self-clearing flag
kinds 1–8 keep. -/
def KindLoad.entry (a : KindLoad) (old : Kind) : Option Kind :=
  match a.present, a.selfClearing, clearPrivOf a.clearPriv, allValid a.templates with
  | some present, some selfClearing, some priv, some ts =>
    let clearanceOk := match a.clearance, a.clearanceCls with
      | none, _ => true
      | some t, some c => decide (t < Config.templates) && decide (1 ≤ c) && decide (c ≤ 4)
      | some _, none => false
    if decide (1 ≤ a.kind) && decide (a.kind < Config.kinds) && decide (1 ≤ a.severity) && decide (a.severity ≤ 4) &&
       decide (10 ≤ a.ackLimit) && decide (a.ackLimit ≤ 600) && decide (ts.length ≤ 4) && clearanceOk &&
       (present || !ownKind a.kind) && (ownKind a.kind || !selfClearing) then
      some { present := present, severity := a.severity, ackLimit := a.ackLimit,
             selfClearing := if ownKind a.kind then old.selfClearing else false, clearPriv := priv, templates := ts,
             clearance := match a.clearance, a.clearanceCls with | some t, some c => some (t, c) | _, _ => none }
    else none
  | _, _, _, _ => none

def ownLoadKind (_c : Sender) (a : KindLoad) (s : State) : Answer :=
  match a.entry (s.kind a.kind) with
  | none => refused s .badArgument
  | some k => accepted (s.setKind a.kind k) []

def execLoadKind (s : State) : Next := .next (s.request 0xCD (some .supervisor) .either parseKind ownLoadKind)

end Sys2Proof.Machine
end

