-- ==== Sys2Proof/Machine/Service.lean ====
section
/-! DEFINITION. The service requests: trains and calls (R3, R4, R19, R20, R195), incidents (R96, R101, R104), sections (R68,
R69), announcements (R134, R141) and zone locks (R152). -/

namespace Sys2Proof.Machine

/-! ## Trains (R3, R4) -/

def ownBind (_c : Sender) (a : BindReq) (s : State) : Answer :=
  if ¬ (a.slot < Config.slots ∧ 1 ≤ a.addr ∧ a.addr ≤ 4093 ∧ a.cls < 4) then refused s .badArgument
  else if (s.slot a.slot).st ≠ .free ∨ (s.unit a.addr).role ≠ .unused ∨ s.anyConsole a.addr then refused s .busy
  else accepted (s.bind a.slot a.addr a.trip a.cls) []

def execBindTrain (s : State) : Next := .next (s.request 0xD0 (some .dispatch) .either parseBind ownBind)

def ownRelease (_c : Sender) (t : Nat) (s : State) : Answer :=
  if Config.slots ≤ t then refused s .badArgument
  else if (s.slot t).st = .free then refused s .notFound
  else accepted (s.release t) []

def execReleaseTrain (s : State) : Next := .next (s.request 0xD1 (some .dispatch) .either parse1 ownRelease)

/-! ## Calls (R19, R20) -/

/-- The records of APPEND CALLS are valid one by one (R19 case 1). -/
def callOk (r : CallRecord) : Bool :=
  decide (r.dest < Config.stations) && decide (r.schedArr ≤ r.schedDep) && decide (r.schedArr ≤ Config.maxTime) &&
  decide (r.schedDep ≤ Config.maxTime)

/-- Scheduled departures rise from `lo` on, without falling (R19 case 3). -/
def inOrder : Nat → List CallRecord → Bool
  | _, [] => true
  | lo, r :: l => decide (lo ≤ r.schedDep) && inOrder r.schedDep l

/-- The scheduled departure of a ring's tail; 0 of an empty ring. -/
def Platform.tailDep (pl : Platform) : Nat := (pl.ring.getLast?.map CallRecord.schedDep).getD 0

def ownAppend (_c : Sender) (a : Nat × List CallRecord) (s : State) : Answer :=
  let (p, rs) := a
  let pl := s.plat p
  if ¬ (p < Config.platforms ∧ pl.loaded) ∨ ¬ rs.all callOk then refused s .badArgument
  else if Config.ringCap < pl.ring.length + rs.length then refused s .ringFull
  else if ¬ inOrder pl.tailDep rs then refused s .outOfOrder
  else
    accepted ((s.setPlat p { pl with ring := pl.ring ++ rs }).recompute p)
      (u8 (Config.ringCap - (pl.ring.length + rs.length)))

def execAppendCalls (s : State) : Next := .next (s.request 0xD2 (some .dispatch) .either parseAppend ownAppend)

/-- The index of the first PENDING or ACTIVE record of a trip, with its disposition (R20). -/
def Platform.firstLive (pl : Platform) (trip : Nat) : Option (Nat × CallRecord) :=
  (List.range pl.ring.length).findSome? (fun i => match pl.ring[i]? with
    | none => none
    | some r => if r.trip = trip ∧ r.live then some (i, r) else none)

/-- A PENDING record cancelled in place, with retirement and the cell; while CONFIGURING the outcomes are sent (R20, R50).
DESIGN CHOICE (log entry 45): the telegrams are formed after the whole retirement and not as each outcome joins the buffer, so
a head that retires more than 24 finished records loses the oldest even while the queue has room. -/
def State.cancelCall (s : State) (p i : Nat) (r : CallRecord) : State :=
  let s := (s.modPlat p (fun pl => pl.setRecord i { r with disp := .cancelled })).retire p
  let s := s.recompute p
  if s.running then s else s.flushOutcomes Config.outcomeCap

def ownCancel (_c : Sender) (a : Nat × Nat) (s : State) : Answer :=
  let (p, trip) := a
  if ¬ (p < Config.platforms ∧ (s.plat p).loaded) then refused s .badArgument
  else match (s.plat p).firstLive trip with
    | none => refused s .notFound
    | some (i, r) => if r.disp = .active then refused s .busy else accepted (s.cancelCall p i r) []

def execCancelCall (s : State) : Next := .next (s.request 0xD3 (some .dispatch) .either parseCancel ownCancel)

/-! ## SET PLATFORM MODE (R195) -/

def ownSetMode (_c : Sender) (a : Nat × Nat) (s : State) : Answer :=
  match modeOf a.2 with
  | none => refused s .badArgument
  | some m =>
    if a.1 < Config.platforms ∧ (s.plat a.1).loaded then
      let s := s.modPlat a.1 (fun pl => { pl with mode := m })
      accepted s (u8 m.code ++ u8 (s.effectiveMode a.1).code)
    else refused s .badArgument

def execSetPlatformMode (s : State) : Next := .next (s.request 0xD4 (some .dispatch) .either parse2 ownSetMode)

/-! ## Incidents (R96, R101, R104) -/

/-- The index range of a location type (Table 5-3). -/
def LocType.count : LocType → Nat
  | .train => Config.slots
  | .sect => Config.sections
  | .platform => Config.platforms
  | .station => Config.stations
  | .substation => Config.substations
  | .zone => Config.zones
  | .line => 1

/-- A raise that passes R96: its location and its templates. -/
def State.raiseArgs (s : State) (a : RaiseReq) : Option (Location × List EffectTemplate) :=
  match locTypeOf a.locType, allValid a.templates with
  | some t, some ts =>
    if decide (9 ≤ a.kind) && decide (a.kind < Config.kinds) && (s.kind a.kind).present && decide (a.locIdx < t.count) &&
       (match a.severity with | none => true | some v => decide (1 ≤ v) && decide (v ≤ 4)) && decide (ts.length ≤ 2) then
      some ({ typ := t, idx := a.locIdx }, ts) else none
  | _, _ => none

/-- The result of RAISE INCIDENT: number, entry, RAISED (0) or MERGED (1), the number of effects stored (R96). DESIGN CHOICE
(log entry 26): for a MERGED raise, which stores none, the number is that of the entry it merged into. -/
def State.raiseResult (s : State) (i outcome : Nat) : List Byte :=
  match s.incident i with
  | none => []
  | some v => u16 v.number ++ u8 i ++ u8 outcome ++ u8 v.effects.length

def ownRaise (c : Sender) (a : RaiseReq) (s : State) : Answer :=
  match s.raiseArgs a with
  | none => refused s .badArgument
  | some (loc, ts) => match s.raiseIncident a.kind loc (.console c.entry) a.severity ts with
    | (s, .full) => refused s .tableFull
    | (s, .raised i) => accepted s (s.raiseResult i 0)
    | (s, .merged i) => accepted s (s.raiseResult i 1)

def execRaiseIncident (s : State) : Next := .next (s.request 0xD5 (some .dispatch) .running parseRaise ownRaise)

/-- The entry that carries a number, with its incident. -/
def State.incidentOf (s : State) (n : Nat) : Option (Nat × Incident) :=
  match s.entryOf n with
  | none => none
  | some i => (s.incident i).map (fun v => (i, v))

def ownAck (c : Sender) (n : Nat) (s : State) : Answer :=
  if n = 0 then refused s .badArgument
  else match s.incidentOf n with
    | none => refused s .notFound
    | some (i, v) => let r := s.acknowledge i c.entry v; accepted r.1 (u8 (incStateCode r.2))

def execAckIncident (s : State) : Next := .next (s.request 0xD6 (some .dispatch) .either parseWord ownAck)

def ownClear (c : Sender) (n : Nat) (s : State) : Answer :=
  if n = 0 then refused s .badArgument
  else match s.incidentOf n with
    | none => refused s .notFound
    | some (i, v) =>
      if !c.privs.has (s.kind v.kind).clearPriv then refused s .notPermitted
      else if v.active then accepted (s.clearEntry i v) (u8 (incStateCode (if v.st = .activeAck then none else some .clearedUnack)))
      else accepted s (u8 (incStateCode (some v.st)))

def execClearIncident (s : State) : Next := .next (s.request 0xD7 none .either parseWord ownClear)

/-! ## Sections (R68, R69) -/

/-- The section is in range and loaded (R68, R69). -/
def State.sectionOk (s : State) (k : Nat) : Bool := decide (k < Config.sections) && (s.sect k).loaded

/-- ACCEPTED with the section's state after the request. -/
def acceptedSection (s : State) (k : Nat) : Answer := accepted s (u8 (s.sect k).st.code)

def ownIsolate (_c : Sender) (k : Nat) (s : State) : Answer :=
  if !s.sectionOk k then refused s .badArgument else acceptedSection (s.isolationRequest k .ordered) k

def execIsolateSection (s : State) : Next := .next (s.request 0xD8 (some .power) .running parse1 ownIsolate)

def ownEnergise (_c : Sender) (k : Nat) (s : State) : Answer :=
  if !s.sectionOk k then refused s .badArgument
  else if (s.sect k).st.switching then refused s .busy
  else if s.interlocked k then refused s .interlocked
  else if (s.sect k).st = .energised then acceptedSection s k
  else acceptedSection (s.energising k) k

def execEnergiseSection (s : State) : Next := .next (s.request 0xD9 (some .power) .running parse1 ownEnergise)

/-! ## Announcements (R134, R141) -/

/-- An argument is 0–99 or 255 (R130). -/
def argOk (a : Nat) : Bool := decide (a ≤ 99) || decide (a = 255)

/-- The values of ANNOUNCE are in range (R141). -/
def State.announceOk (s : State) (a : AnnounceReq) : Bool :=
  decide (a.template < Config.templates) && decide (1 ≤ a.cls) && decide (a.cls ≤ 4) && decide (1 ≤ a.repeats) &&
  decide (a.repeats ≤ 3) && argOk a.arg1 && argOk a.arg2 && decide (1 ≤ a.zones.length) && decide (a.zones.length ≤ 8) &&
  a.zones.all (fun k => decide (k < Config.zones) && (s.zone k).loaded) && noRepeats a.zones

/-- The entry offered to each zone, in list order, with the outcomes (R141). -/
def State.offerAll (s : State) (e : QEntry) : List Nat → State × List OfferResult
  | [] => (s, [])
  | k :: l =>
    let r := s.offer k e
    let rest := r.1.offerAll e l
    (rest.1, r.2 :: rest.2)

def ownAnnounce (c : Sender) (a : AnnounceReq) (s : State) : Answer :=
  if !s.announceOk a then refused s .badArgument
  else
    let e : QEntry := { template := a.template, cls := a.cls, repeats := a.repeats, arg1 := a.arg1, arg2 := a.arg2,
                        origin := .console c.entry }
    let r := s.offerAll e a.zones
    let result := listBytes (fun o : OfferResult => u8 o.code) r.2
    (r.1, if r.2.all (fun o => decide (o = .busy)) then .busy else .accepted, result)

def execAnnounce (s : State) : Next := .next (s.request 0xDA (some .dispatch) .running parseAnnounce ownAnnounce)

def ownArm (_c : Sender) (a : ArmReq) (s : State) : Answer :=
  match a.repeating with
  | none => refused s .badArgument
  | some repeating =>
    if a.platform < Config.platforms ∧ (s.plat a.platform).loaded ∧ (∀ t, a.template = some t → t < Config.templates) ∧
       1 ≤ a.cls ∧ a.cls ≤ 4 then
      accepted (s.setArming a.platform { template := a.template, cls := a.cls, repeating := repeating }) []
    else refused s .badArgument

def execArmAnnouncement (s : State) : Next := .next (s.request 0xDB (some .dispatch) .either parseArm ownArm)

/-! ## Zone locks (R152) -/

/-- The zone is in range and loaded (R137). -/
def State.zoneOk (s : State) (k : Nat) : Bool := decide (k < Config.zones) && (s.zone k).loaded

def ownLock (c : Sender) (k : Nat) (s : State) : Answer :=
  if !s.zoneOk k then refused s .badArgument
  else match s.lockZone k c.entry (c.privs.has .supervisor) with
    | none => refused s .busy
    | some s => accepted s []

def execLockZone (s : State) : Next := .next (s.request 0xDC (some .dispatch) .running parse1 ownLock)

def ownUnlock (c : Sender) (k : Nat) (s : State) : Answer :=
  if !s.zoneOk k then refused s .badArgument
  else match s.unlockZone k c.entry (c.privs.has .supervisor) with
    | none => refused s .notPermitted
    | some s => accepted s []

def execUnlockZone (s : State) : Next := .next (s.request 0xDD (some .dispatch) .either parse1 ownUnlock)

end Sys2Proof.Machine
end

