-- ==== Sys2Proof/Machine/Ports.lean ====
section
/-! DEFINITION. The commands of the reset input and the ports (R181 to R187, R200). -/

namespace Sys2Proof.Machine

/-! ## Reset (R200) -/

/-- RESET ASSERTED (R200). The queue of commands is not the part's: it stays. -/
def execResetAsserted (s : State) : Next := .next { State.inReset with pending := s.pending }

/-- RESET RELEASED (R200, Table 12-7). -/
def execResetReleased (straps : BitVec 12) (s : State) : Next := .next { State.afterReset straps with pending := s.pending }

/-! ## Reception (R181, R182) -/

/-- A port that has received a run of bytes (R181, R182). -/
def PortState.received (v : PortState) (run : List Byte) : PortState :=
  match receive run with
  | .framingError => { v with framingErrors := satSucc Config.counterMax v.framingErrors }
  | .crcError => { v with crcErrors := satSucc Config.counterMax v.crcErrors }
  | .valid f =>
    if v.fifo.length < Config.fifoCap then { v with linkDown := false, fifo := v.fifo ++ [f] }
    else { v with linkDown := false, inboundOverflows := satSucc Config.counterMax v.inboundOverflows }

/-- FRAME RECEIVED (R181). No port takes a frame while reset is asserted (R200). -/
def execFrameReceived (p : Port) (run : List Byte) (s : State) : Next :=
  .next (if s.resetHeld then s else s.setPort p ((s.port p).received run))

/-! ## Link loss (R186) -/

/-- A port whose incoming signal has been absent for 1 s (R186): once, until the next valid frame. -/
def PortState.lost (v : PortState) : PortState :=
  if v.linkDown then v
  else { v with linkDown := true, linkDownEvents := satSucc Config.counterMax v.linkDownEvents,
                outboundDiscards := min (v.outboundDiscards + (v.urgent.length + v.normal.length)) Config.counterMax,
                urgent := [], normal := [] }

/-- LINK DOWN (R186). -/
def execLinkDown (p : Port) (s : State) : Next :=
  .next (if s.resetHeld then s else s.setPort p (s.port p).lost)

/-! ## Transmission (R183) -/

/-- A port whose free transmitter takes a frame (R183): urgent before normal. -/
def PortState.transmit (v : PortState) : PortState :=
  match v.urgent, v.normal with
  | f :: u, _ => { v with urgent := u, transmitting := some f }
  | [], f :: n => { v with normal := n, transmitting := some f }
  | [], [] => v

/-- FRAME TRANSMISSION (R183). -/
def execFrameTransmission (p : Port) (s : State) : Next :=
  .next (if s.resetHeld then s else s.setPort p (s.port p).transmit)

/-! ## Room (R185) -/

/-- The block at the front of the room list queues one waiting frame, and rejoins the tail if it holds another (R185). -/
def State.giveRoom (s : State) (p : Port) (q : Lane) : State :=
  match (s.port p).room q with
  | [] => s
  | b :: rest =>
    let s := s.setPort p ((s.port p).setRoom q rest)
    let s := s.give p q b
    if s.holds p q b then s.setPort p ((s.port p).setRoom q (((s.port p).room q).filter (fun x => decide (x ≠ b)) ++ [b])) else s

/-- QUEUE ROOM (R185): one place of a queue given to one block. -/
def execQueueRoom (p : Port) (q : Lane) (s : State) : Next :=
  .next (if s.hasRoom p q && !((s.port p).room q).isEmpty then s.take (fun s => s.giveRoom p q) else s)

end Sys2Proof.Machine
end

