-- ==== Sys2Proof/Machine/Clock.lean ====
section
/-! DEFINITION. The commands of the reference clock and of the instants that line time reaches (R158 to R165, and the rules of
the instants' owners). A command whose instant is not reached leaves the state as it is (log entry 1). -/

namespace Sys2Proof.Machine

/-! ## Steps and what falls on them (R158, R160, R161, R24) -/

/-- LINE TIME STEP (R158): one reference eighth. -/
def execLineTimeStep (s : State) : Next := .next (if s.running then s.setTim s.tim.eighth else s)

/-- SLEW CORRECTION (R160). -/
def execSlewCorrection (s : State) : Next := .next (if s.running then s.setTim s.tim.correct else s)

/-- DISPLAY CYCLE (R24, R46). -/
def execDisplayCycle (s : State) : Next :=
  .next (if s.running && s.tim.displayDue then
    s.take (fun s => (s.setTim { s.tim with displayDue := false }).displayCycle) else s)

/-- LINE TIME PUBLICATION (R161). -/
def execLineTimePublication (s : State) : Next :=
  .next (if s.running && s.tim.publishDue then
    s.take (fun s => (s.setTim { s.tim with publishDue := false }).publish) else s)

/-! ## Instants of trains (R34, R83) -/

/-- RELEASE INSTANT (R34) of a HELD slot. -/
def execReleaseInstant (t : Nat) (s : State) : Next :=
  if Config.slots ≤ t then .fault (.noSuchSlot t)
  else .next (match (s.slot t).st, (s.slot t).platform, (s.slot t).release with
    | .held, some p, some rel => if s.reached (some rel) then s.take (fun s => s.takeRelease t p rel) else s
    | _, _, _ => s)

/-- RESERVATION EXPIRY (R83). -/
def execReservationExpiry (t : Nat) (s : State) : Next :=
  if Config.slots ≤ t then .fault (.noSuchSlot t)
  else .next (match s.pool t with
    | .reservation _ _ _ expiry _ => if s.reached (some expiry) then s.take (fun s => s.endReservation t) else s
    | _ => s)

/-! ## Instants of sections and incidents (R62, R64, R102) -/

/-- SWITCHING DEADLINE (R62, R64). -/
def execSwitchingDeadline (k : Nat) (s : State) : Next :=
  if Config.sections ≤ k then .fault (.noSuchSection k)
  else .next (if (s.sect k).st.switching && s.reached (s.sect k).deadline then s.take (fun s => s.takeDeadline k) else s)

/-- ACKNOWLEDGEMENT DEADLINE (R102). -/
def execAcknowledgementDeadline (i : Nat) (s : State) : Next :=
  if Config.entries ≤ i then .fault (.noSuchEntry i)
  else .next (match s.incident i with
    | none => s
    | some v => if decide (v.st = .activeUnack) && s.reached v.deadline then s.take (fun s => s.escalate i v) else s)

/-! ## Instants of zones (R145, R147, R152) -/

/-- FRAME DEADLINE (R145). -/
def execFrameDeadline (k : Nat) (s : State) : Next :=
  if Config.zones ≤ k then .fault (.noSuchZone k)
  else .next (if decide ((s.zone k).st = .sending) && s.reached (s.zone k).deadline then s.take (fun s => s.frameDeadline k) else s)

/-- GAP END (R146, R147). -/
def execGapEnd (k : Nat) (s : State) : Next :=
  if Config.zones ≤ k then .fault (.noSuchZone k)
  else .next (if decide ((s.zone k).st = .gap) && s.reached (s.zone k).gapEnd then s.take (fun s => s.gapEnds k) else s)

/-- LOCK AGE RELEASE (R152). -/
def execLockAgeRelease (k : Nat) (s : State) : Next :=
  if Config.zones ≤ k then .fault (.noSuchZone k)
  else .next (if s.reached (s.zone k).lockAge then s.take (fun s => s.releaseLock k .unlockedAge) else s)

/-! ## Silence, displays, outcomes (R163, R47, R49) -/

/-- SILENCE EXPIRY (R163). -/
def execSilenceExpiry (a : Nat) (s : State) : Next :=
  if Config.self < a then .fault (.noSuchAddress a)
  else .next (if s.expired a then s.take (fun s => s.expire a) else s)

/-- DISPLAY UPDATE (R47): a pending cell whose interval has passed is sent, or waits for room. -/
def execDisplayUpdate (p : Nat) (s : State) : Next :=
  if Config.platforms ≤ p then .fault (.noSuchPlatform p)
  else .next (if (s.plat p).loaded && (s.plat p).cellPending && s.running && s.cellRipe p then s.take (fun s => s.tryCell p) else s)

/-- CALL OUTCOMES (R49). -/
def execCallOutcomes (s : State) : Next := .next (if s.outcomesDue then s.take State.tryOutcomes else s)

end Sys2Proof.Machine
end

