-- ==== Sys2Proof/Machine/Field.lean ====
section
/-! DEFINITION. The commands of the field link: FIELD FRAME (R170) and the telegrams that an owner acts on (R5 to R15, R53, R144,
R146, R151, R173). A telegram with a payload of another length than its layout's is ignored by its owner. -/

namespace Sys2Proof.Machine

/-- A field frame that no owner acts on (R170 to R172). -/
def execFieldFrame (s : State) : Next := .next s.fieldFrame

/-! ## Trains (R5) -/

/-- A platform that a train may name: in range and loaded (R5). -/
def State.platformOk (s : State) (p : Nat) : Bool := decide (p < Config.platforms) && (s.plat p).loaded

/-- A telegram acted on for slot `t`: any ACTIVE kind 1 incident there is self-cleared, then it takes its effect (R5). An
ignored telegram, or one for a FREE slot, changes nothing. -/
def State.trainActs (s : State) (t : Nat) (acts : Bool) (effect : State → State) : State :=
  if acts && decide ((s.slot t).st ≠ .free) then effect (s.selfClear 1 (trainAt t)) else s

/-- ARRIVED at the regulator (R7 to R10): a duplicate is ignored (R8). -/
def ownerArrived (s : State) (f : Frame) : State :=
  let t := (s.unit f.src).index
  match parseArrived f.payload with
  | none => s
  | some (p, trip) => s.trainActs t (s.platformOk p && !(s.slot t).atPlatform p) (fun s => s.arrived t p trip)

/-- ARRIVED (R7). -/
def execArrived (s : State) : Next := .next (s.onField kArrived ownerArrived)

/-- DOORS CLOSED is taken from DWELLING or HELD at the platform it names (R11). -/
def Slot.doorsTaken (sl : Slot) (p : Nat) : Bool :=
  (decide (sl.st = .dwelling) || decide (sl.st = .held)) && decide (sl.platform = some p)

/-- DOORS CLOSED at the regulator (R11). -/
def ownerDoorsClosed (s : State) (f : Frame) : State :=
  let t := (s.unit f.src).index
  match parse1 f.payload with
  | none => s
  | some p => s.trainActs t (s.platformOk p && (s.slot t).doorsTaken p) (fun s => s.doorsClosed t p)

/-- The platform at which a DOORS CLOSED resumes the call of a LOST slot (R15). -/
def State.resumeAt (s : State) (f : Frame) : Option Nat :=
  let t := (s.unit f.src).index
  match parse1 f.payload with
  | none => none
  | some p => if decide ((s.slot t).st = .lost) && s.platformOk p && s.resumes t p then some p else none

/-- DOORS CLOSED (R11). From a LOST slot whose call it resumes, the recovery of R15 has taken it already. -/
def execDoorsClosed (s : State) : Next :=
  .next (match s.front .field with
    | none => s
    | some f =>
      if s.actedOn f ∧ f.kind = kDoorsClosed then
        match s.resumeAt f with
        | some p => s.take (fun s => (s.pop .field).heard f (some p))
        | none => s.take (fun s => ownerDoorsClosed ((s.pop .field).heard f none) f)
      else s)

/-- DEPARTED at the regulator (R12). -/
def ownerDeparted (s : State) (f : Frame) : State :=
  let t := (s.unit f.src).index
  match parse1 f.payload with
  | none => s
  | some p => s.trainActs t (s.platformOk p && (s.slot t).atPlatform p) (fun s => s.departed t p)

/-- DEPARTED (R12). -/
def execDeparted (s : State) : Next := .next (s.onField kDeparted ownerDeparted)

/-- POSITION at the regulator (R6). -/
def ownerPosition (s : State) (f : Frame) : State :=
  let t := (s.unit f.src).index
  match parse1 f.payload with
  | none => s
  | some k => s.trainActs t (s.sectionOk k) (fun s => s.position t k)

/-- POSITION (R6). -/
def execPosition (s : State) : Next := .next (s.onField kPosition ownerPosition)

/-- START REQUEST at the regulator (R13). -/
def ownerStartRequest (s : State) (f : Frame) : State :=
  let t := (s.unit f.src).index
  match parse1 f.payload with
  | none => s
  | some k => s.trainActs t (s.sectionOk k && (s.slot t).mayRequest) (fun s => s.startRequest t k)

/-- START REQUEST (R13). -/
def execStartRequest (s : State) : Next := .next (s.onField kStartRequest ownerStartRequest)

/-! ## Substations (R53) -/

/-- FEEDER REPORT at the power unit (R53): a payload that does not divide into whole entries is ignored. -/
def ownerFeederReport (s : State) (f : Frame) : State :=
  match parseReport f.payload with
  | none => s
  | some es => s.feederReport (s.unit f.src).index es

/-- FEEDER REPORT (R53). -/
def execFeederReport (s : State) : Next := .next (s.onField kFeederReport ownerFeederReport)

/-! ## PA units (R144, R146, R151) -/

/-- FRAME DONE at the composer (R144): ignored unless it matches. -/
def ownerFrameDone (s : State) (f : Frame) : State :=
  match parseAnswer f.payload with
  | none => s
  | some (k, tag, idx) => if s.answers f.src k tag idx then s.frameDone k tag idx else s

/-- FRAME DONE (R144). -/
def execFrameDone (s : State) : Next := .next (s.onField kFrameDone ownerFrameDone)

/-- PA BUSY at the composer (R146): ignored unless it matches. -/
def ownerPaBusy (s : State) (f : Frame) : State :=
  match parseAnswer f.payload with
  | none => s
  | some (k, tag, idx) => if s.answers f.src k tag idx then s.paBusy k else s

/-- PA BUSY (R146). -/
def execPaBusy (s : State) : Next := .next (s.onField kPaBusy ownerPaBusy)

/-- PA FAULT at the composer (R151). -/
def ownerPaFault (s : State) (f : Frame) : State :=
  match parseZone f.payload with
  | none => s
  | some named => s.paFault f.src named

/-- PA FAULT (R151). -/
def execPaFault (s : State) : Next := .next (s.onField kPaFault ownerPaFault)

/-- PA READY at the composer (R151). -/
def ownerPaReady (s : State) (f : Frame) : State :=
  match parseZone f.payload with
  | none => s
  | some named => s.paReady f.src named

/-- PA READY (R151). -/
def execPaReady (s : State) : Next := .next (s.onField kPaReady ownerPaReady)

/-! ## Stations (R173) -/

/-- HELP CALL at the incident unit (R173): a raise of kind 5 at the station, whatever the payload. -/
def ownerHelpCall (s : State) (f : Frame) : State :=
  s.raiseOwn 5 { typ := .station, idx := (s.unit f.src).index } .classifier

/-- HELP CALL (R173). -/
def execHelpCall (s : State) : Next := .next (s.onField kHelpCall ownerHelpCall)

end Sys2Proof.Machine
end

