-- ==== Sys2Proof/Machine/Console.lean ====
section
/-! DEFINITION. The commands of the console link that are not requests: unknown sources (R175) and pass-through telegrams (R176
to R180). -/

namespace Sys2Proof.Machine

/-- CONSOLE FRAME (R175): a source that matches no entry is dropped and counted. -/
def execConsoleFrame (s : State) : Next := .next s.consoleFrame

/-- PASS THROUGH (R176): a telegram with no check of its own. -/
def execPassThrough (s : State) : Next :=
  .next (s.onPass (fun k => !specialPass k) (fun _ _ _ => none) (fun s _ => s))

/-- CONSOLE DEPART PERMIT (R178). -/
def execConsoleDepartPermit (s : State) : Next :=
  .next (s.onPass (fun k => decide (k = kDepartPermit)) State.permitCheck State.markPermit)

/-- CONSOLE ENERGISE ORDER (R177). -/
def execConsoleEnergiseOrder (s : State) : Next :=
  .next (s.onPass (fun k => decide (k = kEnergiseOrder)) State.energiseCheck (fun s _ => s))

/-- CONSOLE PA FRAME (R179). -/
def execConsolePaFrame (s : State) : Next :=
  .next (s.onPass (fun k => decide (k = kPaFrame)) State.zoneCheck (fun s _ => s))

/-- CONSOLE PA ABORT (R179). -/
def execConsolePaAbort (s : State) : Next :=
  .next (s.onPass (fun k => decide (k = kPaAbort)) State.zoneCheck (fun s _ => s))

end Sys2Proof.Machine
end

