-- ==== Sys2Proof/Machine/Dispatch.lean ====
section
/-! DEFINITION. The dispatch of a command to its meaning: one arm per row of spec/opcode_table.json. -/

namespace Sys2Proof.Machine

def exec (i : Instr) (s : State) : Host.Outcome State Fault Refusal :=
  match i with
  | .resetAsserted => Sys2Proof.Machine.execResetAsserted s
  | .resetReleased straps => Sys2Proof.Machine.execResetReleased straps s
  | .lineTimeStep => Sys2Proof.Machine.execLineTimeStep s
  | .slewCorrection => Sys2Proof.Machine.execSlewCorrection s
  | .displayCycle => Sys2Proof.Machine.execDisplayCycle s
  | .lineTimePublication => Sys2Proof.Machine.execLineTimePublication s
  | .frameReceived port run => Sys2Proof.Machine.execFrameReceived port run s
  | .linkDown port => Sys2Proof.Machine.execLinkDown port s
  | .frameTransmission port => Sys2Proof.Machine.execFrameTransmission port s
  | .queueRoom port lane => Sys2Proof.Machine.execQueueRoom port lane s
  | .fieldFrame => Sys2Proof.Machine.execFieldFrame s
  | .arrived => Sys2Proof.Machine.execArrived s
  | .doorsClosed => Sys2Proof.Machine.execDoorsClosed s
  | .departed => Sys2Proof.Machine.execDeparted s
  | .position => Sys2Proof.Machine.execPosition s
  | .startRequest => Sys2Proof.Machine.execStartRequest s
  | .feederReport => Sys2Proof.Machine.execFeederReport s
  | .frameDone => Sys2Proof.Machine.execFrameDone s
  | .paBusy => Sys2Proof.Machine.execPaBusy s
  | .paFault => Sys2Proof.Machine.execPaFault s
  | .paReady => Sys2Proof.Machine.execPaReady s
  | .helpCall => Sys2Proof.Machine.execHelpCall s
  | .releaseInstant slot => Sys2Proof.Machine.execReleaseInstant slot s
  | .reservationExpiry slot => Sys2Proof.Machine.execReservationExpiry slot s
  | .switchingDeadline sect => Sys2Proof.Machine.execSwitchingDeadline sect s
  | .acknowledgementDeadline entry => Sys2Proof.Machine.execAcknowledgementDeadline entry s
  | .frameDeadline zone => Sys2Proof.Machine.execFrameDeadline zone s
  | .gapEnd zone => Sys2Proof.Machine.execGapEnd zone s
  | .lockAgeRelease zone => Sys2Proof.Machine.execLockAgeRelease zone s
  | .silenceExpiry addr => Sys2Proof.Machine.execSilenceExpiry addr s
  | .displayUpdate platform => Sys2Proof.Machine.execDisplayUpdate platform s
  | .callOutcomes => Sys2Proof.Machine.execCallOutcomes s
  | .consoleFrame => Sys2Proof.Machine.execConsoleFrame s
  | .passThrough => Sys2Proof.Machine.execPassThrough s
  | .consoleDepartPermit => Sys2Proof.Machine.execConsoleDepartPermit s
  | .consoleEnergiseOrder => Sys2Proof.Machine.execConsoleEnergiseOrder s
  | .consolePaFrame => Sys2Proof.Machine.execConsolePaFrame s
  | .consolePaAbort => Sys2Proof.Machine.execConsolePaAbort s
  | .unknownRequest => Sys2Proof.Machine.execUnknownRequest s
  | .status => Sys2Proof.Machine.execStatus s
  | .query => Sys2Proof.Machine.execQuery s
  | .startOperation => Sys2Proof.Machine.execStartOperation s
  | .stopOperation => Sys2Proof.Machine.execStopOperation s
  | .setClock => Sys2Proof.Machine.execSetClock s
  | .slewClock => Sys2Proof.Machine.execSlewClock s
  | .loadConsole => Sys2Proof.Machine.execLoadConsole s
  | .loadUnit => Sys2Proof.Machine.execLoadUnit s
  | .loadStation => Sys2Proof.Machine.execLoadStation s
  | .loadPlatform => Sys2Proof.Machine.execLoadPlatform s
  | .loadSection => Sys2Proof.Machine.execLoadSection s
  | .loadFeeder => Sys2Proof.Machine.execLoadFeeder s
  | .loadClasses => Sys2Proof.Machine.execLoadClasses s
  | .loadKind => Sys2Proof.Machine.execLoadKind s
  | .loadTemplate => Sys2Proof.Machine.execLoadTemplate s
  | .loadZone => Sys2Proof.Machine.execLoadZone s
  | .bindTrain => Sys2Proof.Machine.execBindTrain s
  | .releaseTrain => Sys2Proof.Machine.execReleaseTrain s
  | .appendCalls => Sys2Proof.Machine.execAppendCalls s
  | .cancelCall => Sys2Proof.Machine.execCancelCall s
  | .setPlatformMode => Sys2Proof.Machine.execSetPlatformMode s
  | .raiseIncident => Sys2Proof.Machine.execRaiseIncident s
  | .ackIncident => Sys2Proof.Machine.execAckIncident s
  | .clearIncident => Sys2Proof.Machine.execClearIncident s
  | .isolateSection => Sys2Proof.Machine.execIsolateSection s
  | .energiseSection => Sys2Proof.Machine.execEnergiseSection s
  | .announce => Sys2Proof.Machine.execAnnounce s
  | .armAnnouncement => Sys2Proof.Machine.execArmAnnouncement s
  | .lockZone => Sys2Proof.Machine.execLockZone s
  | .unlockZone => Sys2Proof.Machine.execUnlockZone s

end Sys2Proof.Machine
end

