-- ==== Sys2Proof/Safety.lean ====
section
/-! DEFINITION. The terms the claims are stated in: what a command may change, a console that asks, a field unit that is heard,
a reply that is given, and the conditions that every step keeps (the spec's laws). -/

namespace Sys2Proof.Machine

/-! ## What an event changes -/

/-- The blocks and ports of Table 0-2, for saying which of them an event leaves alone. -/
inductive Part where
  | hnd | cls | tim | reg | pow | inc | com | fieldPort | consolePort
  deriving DecidableEq, Repr

/-- A port that an event leaves alone: only blocks that hold no frame any more leave its room lists (R185). -/
def State.portKept (s t : State) (p : Port) : Prop :=
  t.port p = { s.port p with urgentRoom := (s.port p).urgentRoom.filter (t.holds p .urgent),
                             normalRoom := (s.port p).normalRoom.filter (t.holds p .normal) }

/-- An event leaves this part of the state alone. -/
def State.kept (s t : State) : Part → Prop
  | .hnd => t.hnd = s.hnd
  | .cls => t.cls = s.cls
  | .tim => t.tim = s.tim
  | .reg => t.reg = s.reg
  | .pow => t.pow = s.pow
  | .inc => t.inc = s.inc
  | .com => t.com = s.com
  | .fieldPort => s.portKept t .field
  | .consolePort => s.portKept t .console

/-- One event of the part (R182: whole and indivisible) that changes at most the parts listed. -/
def State.onlyChanges (s t : State) (ps : List Part) : Prop :=
  t.pending = s.pending ∧ t.resetHeld = s.resetHeld ∧ t.event = s.event + 1 ∧ ∀ x, x ∉ ps → s.kept t x

/-- Nothing is taken: the command leaves the state as it is. -/
def State.untouched (s : State) (i : Instr) : Prop := exec i s = .next s

/-! ## What waits and what is sent -/

/-- `w` is the frame of a list of waiting frames that goes first: no other has waited as long, or as long at a lower index
(R185). -/
def longestWaiting {α : Type} (l : List (Nat × Nat × α)) (w : Nat × Nat × α) : Prop :=
  w ∈ l ∧ ∀ y ∈ l, y = w ∨ w.1 < y.1 ∨ (w.1 = y.1 ∧ w.2.1 < y.2.1)

/-- A place in queue `q` of port `p` has been given to block `b`, in front of `rest` (R185): the frame `f` has joined the end
of queue `joined`. The block has left the room list of `q` and stands at its tail again if it holds another frame for it; blocks
that hold no frame any more are off both lists; nothing else of the port has changed. -/
def State.gave (s t : State) (p : Port) (q joined : Lane) (b : Block) (rest : List Block) (f : Frame) : Prop :=
  let kept : List Block := rest.filter (t.holds p q)
  let list : List Block := if t.holds p q b = true then kept.filter (fun x => decide (x ≠ b)) ++ [b] else kept
  let lists (l : Lane) : List Block := if l = q then list else ((s.port p).room l).filter (t.holds p l)
  t.port p = { s.port p with
    urgent := if joined = .urgent then (s.port p).urgent ++ [f] else (s.port p).urgent
    normal := if joined = .normal then (s.port p).normal ++ [f] else (s.port p).normal
    urgentRoom := lists .urgent, normalRoom := lists .normal }

/-- The permit or grant `f` of slot `n` has gone to the field port's urgent queue, else to its normal queue, else waits with
the slot (R38); nothing else has joined a queue of the field port. -/
def State.permitSent (s t : State) (n : Nat) (f : Frame) : Prop :=
  let v := s.fieldPort
  let w := t.fieldPort
  if v.urgent.length < Config.urgentCap then w.urgent = v.urgent ++ [f] ∧ w.normal = v.normal ∧ (t.slot n).permit = none
  else if v.normal.length < Config.normalCap then
    w.urgent = v.urgent ∧ w.normal = v.normal ++ [f] ∧ (t.slot n).permit = none
  else w.urgent = v.urgent ∧ w.normal = v.normal ∧ ∃ e, (t.slot n).permit = some ⟨f, e⟩

/-- A start of slot `n` on section `k` has been granted (R36, R37, R80): the slot is PERMITTED, the reservation stands, and
the telegram `f` is sent. -/
def State.startGranted (s t : State) (n k amount : Nat) (reduced : Bool) (f : Frame) : Prop :=
  (t.slot n).st = .permitted ∧
  t.pool n = .reservation k s.now amount (s.instant (s.now + 8 * (s.sect k).window)) reduced ∧
  t.sect k = { s.sect k with reserved := (s.sect k).reserved + amount } ∧ s.permitSent t n f

/-- The section takes fresh requests at once (R78, R79): ENERGISED, measured, with an empty queue. -/
def Sect.ready (v : Sect) : Prop := v.st = .energised ∧ v.measLost = false ∧ v.queue = []

/-- The full test of R79 for demand `d`. -/
def Sect.fits (v : Sect) (d : Nat) : Prop := 0 < v.ceff ∧ (max v.m 0).toNat + v.reserved + d ≤ v.ceff

/-- The reduced test of R79 for demand `d`, where the full one fails. -/
def Sect.fitsReduced (v : Sect) (d : Nat) : Prop :=
  ¬ v.fits d ∧ 0 < v.ceff ∧ v.reserved = 0 ∧ v.ceff < (max v.m 0).toNat + d ∧ (max v.m 0).toNat ≤ v.ceff ∧
  d ≤ 2 * (v.ceff - (max v.m 0).toNat)

/-- A start of slot `n`, with demand `d` and release-instant value `rel`, has been placed on section `k` (R78 to R80): granted
in full or reduced, with its telegram, or queued with none. -/
def State.startPlaced (s t : State) (n k d : Nat) (rel : Option Nat) (telegram : Nat → Bool → Frame) : Prop :=
  let v := s.sect k
  let cut := v.ceff - (max v.m 0).toNat
  (v.ready → v.fits d → s.startGranted t n k d false (telegram d false)) ∧
  (v.ready → v.fitsReduced d → s.startGranted t n k cut true (telegram cut true)) ∧
  (¬ v.ready ∨ (¬ v.fits d ∧ ¬ v.fitsReduced d) →
    (t.slot n).st = .waitingPower ∧ t.pool n = .queued k d s.now rel ∧ t.sect k = { v with queue := v.queue ++ [n] } ∧
    t.fieldPort.urgent = s.fieldPort.urgent ∧ t.fieldPort.normal = s.fieldPort.normal)

/-- The order that section `k` sends for its feeder `i` to unit `a` (R67). -/
def State.orderFor (s : State) (kind : OrderKind) (k attempts i a : Nat) : Frame :=
  breakerOrder kind a (s.feeder i).substation (s.feeder i).number k attempts

/-- Each feeder of section `k` that is `due` and whose substation has a unit has been ordered (R61, R62, R64, R67): its order
has joined a queue of the field port, or waits with the feeder; and nothing but such orders has joined those queues. -/
def State.ordersSent (s t : State) (k : Nat) (kind : OrderKind) (attempts : Nat) (due : Nat → Prop) : Prop :=
  ∃ l₁ l₂, t.fieldPort.urgent = s.fieldPort.urgent ++ l₁ ∧ t.fieldPort.normal = s.fieldPort.normal ++ l₂ ∧
    (∀ i ∈ s.feedersOf k, due i → ∀ a, s.substationAddr (s.feeder i).substation = some a →
      let f := s.orderFor kind k attempts i a
      (f ∈ l₁ ++ l₂ ∧ (t.feeder i).waiting = none) ∨ ∃ e, (t.feeder i).waiting = some ⟨kind, f, e⟩) ∧
    ∀ f ∈ l₁ ++ l₂, ∃ i ∈ s.feedersOf k, ∃ a, due i ∧ s.substationAddr (s.feeder i).substation = some a ∧
      f = s.orderFor kind k attempts i a

/-! ## Calls -/

/-- A ring whose record at `i` has become DEPARTED with nobody seeing it (R9, R10), after retirement (R23). -/
def ringLeft (ring : List CallRecord) (i : Nat) (r : CallRecord) (flags : CallFlags) : List CallRecord :=
  (ring.set i { r with disp := .departed, departure := none, lateness := none, flags := flags }).dropWhile
    (fun x => x.disp.finished)

/-- A ring after slot `n` has arrived at `now` with the record at `m` for its match (R21): the record is ACTIVE, the PENDING
ones before it are SKIPPED, and the finished heads have retired; the same ring without a match. -/
def ringArrived (ring : List CallRecord) (m : Option Nat) (n now : Nat) : List CallRecord :=
  match m with
  | none => ring
  | some m => (ring.mapIdx (fun i x =>
      if i < m ∧ x.disp = .pending then { x with disp := .skipped }
      else if i = m then { x with disp := .active, slot := some n, arrival := some now } else x)).dropWhile
        (fun x => x.disp.finished)

/-! ## Incidents and announcements -/

/-- The ACTIVE incident of this kind at this location, if there is one and the kind is self-clearing, has been cleared
(R103, R105). -/
def State.selfCleared (s t : State) (kind : Nat) (loc : Location) : Prop :=
  ∀ i v, (s.kind kind).selfClearing = true → s.openIncident kind loc = some i → s.incident i = some v →
    t.incident i = if v.st = .activeAck then none else some { v with st := .clearedUnack, deadline := none }

/-- A raise by a block of the part (R93, R95), where no ACTIVE incident of the kind stands at the location and entry `i` is
the lowest free one. -/
def State.raisedBy (s t : State) (kind : Nat) (loc : Location) (raiser : Raiser) : Prop :=
  ∀ i, s.openIncident kind loc = none → s.freeIncident = some i → ∃ v, t.incident i = some v ∧ v.kind = kind ∧
    v.loc = loc ∧ v.st = .activeUnack ∧ v.raiser = raiser ∧ v.raised = s.now ∧ v.occurrences = 1

/-- A notice RECOVERED of slot `n` is due (R14, R15): queued, or pending in its slot. -/
def State.recoveredDue (t : State) (n : Nat) : Prop :=
  (∃ m, t.trainNotice n = some m ∧ m.reason = .recovered) ∨
  ∃ m : TrainNotice, m.reason = .recovered ∧ m.frame n ∈ t.consolePort.normal

/-- Zone `k` has begun to play the entry `x` afresh (R142 steps 3 and 4, R132, R143): composed, with the next entry tag,
with frame 0 as its outstanding frame. -/
def State.begins (s t : State) (k : Nat) (x : QEntry) : Prop :=
  let b := s.compose (s.zone k) x
  let tag := (s.zone k).tagCounter
  (t.zone k).st = .sending ∧ (t.zone k).playBuf = b ∧
  (t.zone k).playing = some { x with st := .playing, entryTag := tag, lastCount := b.codes.length, lastTrunc := b.trunc } ∧
  (t.zone k).tagCounter = (if tag = 255 then 1 else tag + 1) ∧ (t.zone k).expiryRun = 0 ∧
  ∃ o, (t.zone k).outstanding = some o ∧ o.idx = 0 ∧ o.tag = tag

/-- Zone `k` has resumed its SUSPENDED entry `x` at the saved frame (R142 steps 3 and 4). -/
def State.resumed (s t : State) (k : Nat) (x : QEntry) : Prop :=
  let tag := (s.zone k).tagCounter
  (t.zone k).st = .sending ∧ (t.zone k).playBuf = (s.zone k).suspBuf ∧ (t.zone k).suspBuf = {} ∧
  (t.zone k).playing = some { x with st := .playing, entryTag := tag } ∧
  (t.zone k).tagCounter = (if tag = 255 then 1 else tag + 1) ∧ (t.zone k).expiryRun = 0 ∧
  ∃ o, (t.zone k).outstanding = some o ∧ o.idx = x.savedIdx ∧ o.tag = tag

/-- Of zone `k`, at most its outstanding frame has joined the queues of the field port, and its waiting-abort flag is as it
was: no PA ABORT has been made (R149, R150). -/
def State.sendsNoAbort (s t : State) (k : Nat) : Prop :=
  (t.zone k).abort = (s.zone k).abort ∧
  ∃ l₁ l₂, t.fieldPort.urgent = s.fieldPort.urgent ++ l₁ ∧ t.fieldPort.normal = s.fieldPort.normal ++ l₂ ∧
    ∀ f ∈ l₁ ++ l₂, ∃ o, (t.zone k).outstanding = some o ∧ f = (t.zone k).paFrame k o

/-! ## Requests (R190 to R193) -/

/-- Console `c` asks: its frame of this kind and payload, to 4095, is the one the part takes next from the console port. -/
def State.asks (s : State) (kind : Nat) (c : Sender) (payload : List Byte) : Prop :=
  ∃ f, s.front .console = some f ∧ s.sender f.src = some c ∧ f.dst = Config.self ∧ f.kind = kind ∧ f.payload = payload

/-- The request has left the FIFO, and its REPLY `r` stands at the end of the urgent queue, else of the normal queue, else
in the reply hold, on both room lists (R184, R193); nothing else of the console port has changed. -/
def State.replied (s t : State) (r : Frame) : Prop :=
  let v := s.consolePort
  let w := t.consolePort
  w = { v with fifo := v.fifo.drop 1, urgent := w.urgent, normal := w.normal, urgentRoom := w.urgentRoom,
               normalRoom := w.normalRoom } ∧
  if v.urgent.length < Config.urgentCap then
    w.urgent = v.urgent ++ [r] ∧ w.normal = v.normal ∧ t.hnd.replyHold = none
  else if v.normal.length < Config.normalCap then
    w.urgent = v.urgent ∧ w.normal = v.normal ++ [r] ∧ t.hnd.replyHold = none
  else w.urgent = v.urgent ∧ w.normal = v.normal ∧ t.hnd.replyHold = some r ∧
    .requestHandler ∈ w.urgentRoom ∧ .requestHandler ∈ w.normalRoom

/-- As `replied`, of an event that may also have queued notices: the REPLY is the last frame of its queue, or in the hold. -/
def State.repliedLast (t : State) (r : Frame) : Prop :=
  t.consolePort.urgent.getLast? = some r ∨ t.consolePort.normal.getLast? = some r ∨ t.hnd.replyHold = some r

/-- A refused request: nothing but the REPLY, with an empty result (R193). -/
def State.refusedWith (s t : State) (c : Sender) (kind : Nat) (r : Reason) : Prop :=
  s.onlyChanges t [.hnd, .consolePort] ∧ t.hnd.op = s.hnd.op ∧ s.replied t (replyFrame c.addr kind r [])

/-- The REPLY of this kind, reason and result to console `c`. -/
def Sender.reply (c : Sender) (kind : Nat) (reason : Reason) (result : List Byte) : Frame :=
  replyFrame c.addr kind reason result

/-- Tables 11-2, 12-1 and 12-2 by command: the kind, the privilege (`none`: any listed console) and the operating states. -/
def requestTable : List (Instr × Nat × Option Priv × Admitted) :=
  [(.status, 0xC0, some .view, .either), (.startOperation, 0xC1, some .supervisor, .configuring),
   (.stopOperation, 0xC2, some .supervisor, .running), (.setClock, 0xC3, some .supervisor, .configuring),
   (.slewClock, 0xC4, some .supervisor, .running), (.loadConsole, 0xC6, some .supervisor, .configuring),
   (.loadUnit, 0xC7, some .supervisor, .configuring), (.loadStation, 0xC8, some .supervisor, .configuring),
   (.loadPlatform, 0xC9, some .supervisor, .configuring), (.loadSection, 0xCA, some .supervisor, .configuring),
   (.loadFeeder, 0xCB, some .supervisor, .configuring), (.loadClasses, 0xCC, some .supervisor, .either),
   (.loadKind, 0xCD, some .supervisor, .either), (.loadTemplate, 0xCE, some .supervisor, .either),
   (.loadZone, 0xCF, some .supervisor, .configuring), (.bindTrain, 0xD0, some .dispatch, .either),
   (.releaseTrain, 0xD1, some .dispatch, .either), (.appendCalls, 0xD2, some .dispatch, .either),
   (.cancelCall, 0xD3, some .dispatch, .either), (.setPlatformMode, 0xD4, some .dispatch, .either),
   (.raiseIncident, 0xD5, some .dispatch, .running), (.ackIncident, 0xD6, some .dispatch, .either),
   (.clearIncident, 0xD7, none, .either), (.isolateSection, 0xD8, some .power, .running),
   (.energiseSection, 0xD9, some .power, .running), (.announce, 0xDA, some .dispatch, .running),
   (.armAnnouncement, 0xDB, some .dispatch, .either), (.lockZone, 0xDC, some .dispatch, .running),
   (.unlockZone, 0xDD, some .dispatch, .either), (.query, 0xDE, some .view, .either)]

/-- The payload of a request of this kind has a form that its layout allows (R189, R190 step 1). -/
def requestParses (kind : Nat) (payload : List Byte) : Bool :=
  match kind with
  | 0xC0 | 0xC1 | 0xC2 => (parse0 payload).isSome
  | 0xC3 => (parseTime payload).isSome
  | 0xC4 => (parseSigned payload).isSome
  | 0xC6 => (parseConsole payload).isSome
  | 0xC7 => (parseUnit payload).isSome
  | 0xC8 => (parseStation payload).isSome
  | 0xC9 => (parsePlatform payload).isSome
  | 0xCA => (parseSection payload).isSome
  | 0xCB => (parseFeeder payload).isSome
  | 0xCC => (parseClasses payload).isSome
  | 0xCD => (parseKind payload).isSome
  | 0xCE => (parseTemplate payload).isSome
  | 0xCF => (parseZoneLoad payload).isSome
  | 0xD0 => (parseBind payload).isSome
  | 0xD2 => (parseAppend payload).isSome
  | 0xD3 => (parseCancel payload).isSome
  | 0xD4 => (parse2 payload).isSome
  | 0xD5 => (parseRaise payload).isSome
  | 0xD6 | 0xD7 => (parseWord payload).isSome
  | 0xD1 | 0xD8 | 0xD9 | 0xDC | 0xDD => (parse1 payload).isSome
  | 0xDA => (parseAnnounce payload).isSome
  | 0xDB => (parseArm payload).isSome
  | 0xDE => (parseQuery payload).isSome
  | _ => false

/-! ## Field frames (R170 to R173) -/

/-- The unit that sent the frame is not silent: its frame ends no silence (R164). -/
def State.calm (s : State) (a : Nat) : Prop :=
  match s.trainOf a with
  | some t => (s.slot t).st ≠ .lost
  | none => (s.supervision a).silent = false

/-- The frame `f`, of this kind and payload, is the one the part takes next from the field port, its owner acts on it, and
it ends no silence. -/
def State.hears (s : State) (f : Frame) (kind : Nat) (payload : List Byte) : Prop :=
  s.front .field = some f ∧ s.actedOn f = true ∧ f.kind = kind ∧ f.payload = payload ∧ s.calm f.src

/-- As `hears`, from the unit of train slot `t`, at which no kind 1 incident is ACTIVE (R5). -/
def State.hearsTrain (s : State) (f : Frame) (kind : Nat) (payload : List Byte) (t : Nat) : Prop :=
  s.hears f kind payload ∧ s.trainOf f.src = some t ∧ (s.slot t).st ≠ .free ∧ s.openIncident 1 (trainAt t) = none

/-- An entry of a FEEDER REPORT as Table 11-5 lays it out: the feeder number, the flag byte with bits 7-2 at 0, the reading. -/
def ReportEntry.bytes (e : ReportEntry) : List Byte :=
  u8 e.number ++ u8 ((if e.breaker = .closed then 1 else 0) + (if e.protection = true then 2 else 0)) ++ i16 e.kw

/-- The frame `f`, a FEEDER REPORT of the 1 to 8 entries `es` (R53, Table 11-5), is heard as `hears` says. -/
def State.hearsReport (s : State) (f : Frame) (es : List ReportEntry) : Prop :=
  s.hears f kFeederReport (es.flatMap ReportEntry.bytes) ∧ 1 ≤ es.length ∧ es.length ≤ 8 ∧
  ∀ e ∈ es, e.number < 256 ∧ -32768 ≤ e.kw ∧ e.kw ≤ 32767 ∧ e.breaker ≠ .unknown

/-- The entries of a report of the unit at address `a` that match feeder `i`, oldest first (R53). -/
def State.entriesFor (s : State) (a : Nat) (es : List ReportEntry) (i : Nat) : List ReportEntry :=
  es.filter (fun e => decide (e.number ≤ 7) && decide (s.feederAt (s.unit a).index e.number = some i))

/-- The supervision records after a frame of address `a`: its last-heard instant is now, and no other has changed (R170). -/
def State.timHeard (s t : State) (a : Nat) : Prop :=
  t.tim = { s.tim with supervision := t.tim.supervision } ∧
  (∀ b, b ≠ a → t.supervision b = s.supervision b) ∧ t.supervision a = { s.supervision a with lastHeard := s.now }

/-- The console port after the copy of frame `f` (R171): queued by its kind, or discarded and counted, when the source's
policy is PASS or BOTH; no queue, FIFO or counter changes otherwise. -/
def State.copied (s t : State) (f : Frame) : Prop :=
  let v := s.consolePort
  let w := t.consolePort
  let q : Lane := if urgentCopy f.kind then .urgent else .normal
  w = { v with urgent := w.urgent, normal := w.normal, outboundDiscards := w.outboundDiscards,
               urgentRoom := w.urgentRoom, normalRoom := w.normalRoom } ∧
  if (s.unit f.src).policy.copies = true then
    (if s.hasRoom .console q = true then
      w.urgent = (if q = .urgent then v.urgent ++ [f] else v.urgent) ∧
      w.normal = (if q = .normal then v.normal ++ [f] else v.normal) ∧ w.outboundDiscards = v.outboundDiscards
     else w.urgent = v.urgent ∧ w.normal = v.normal ∧
      w.outboundDiscards = satSucc Config.counterMax v.outboundDiscards)
  else w.urgent = v.urgent ∧ w.normal = v.normal ∧ w.outboundDiscards = v.outboundDiscards

/-! ## Console telegrams that pass (R176, R180) -/

/-- Console `c`'s telegram `f`, for another address than the part's, is the one the part takes next from the console port. -/
def State.passes (s : State) (f : Frame) (c : Sender) : Prop :=
  s.front .console = some f ∧ s.sender f.src = some c ∧ f.dst ≠ Config.self

/-- The telegram has left the console FIFO and stands, unchanged, at the end of the field queue of its kind, or is counted
as a discard of the field port when that queue is full (R176, Table 11-1). -/
def State.passed (s t : State) (f : Frame) : Prop :=
  let v := s.fieldPort
  let w := t.fieldPort
  let q : Lane := if urgentPassed f.kind then .urgent else .normal
  t.consolePort = { s.consolePort with fifo := s.consolePort.fifo.drop 1, urgentRoom := t.consolePort.urgentRoom,
                                       normalRoom := t.consolePort.normalRoom } ∧
  w = { v with urgent := w.urgent, normal := w.normal, outboundDiscards := w.outboundDiscards,
               urgentRoom := w.urgentRoom, normalRoom := w.normalRoom } ∧
  if s.hasRoom .field q = true then
    w.urgent = (if q = .urgent then v.urgent ++ [f] else v.urgent) ∧
    w.normal = (if q = .normal then v.normal ++ [f] else v.normal) ∧ w.outboundDiscards = v.outboundDiscards
  else w.urgent = v.urgent ∧ w.normal = v.normal ∧ w.outboundDiscards = satSucc Config.counterMax v.outboundDiscards

/-- The telegram is refused with this reason: nothing but the REPLY, whose result is the destination (R180). -/
def State.turnedAway (s t : State) (f : Frame) (c : Sender) (r : Reason) : Prop :=
  s.onlyChanges t [.hnd, .consolePort] ∧ t.hnd.op = s.hnd.op ∧ s.replied t (c.reply f.kind r (u16 f.dst))

/-- The commands that take a field telegram, each with its kind (Table 11-2). -/
def fieldTable : List (Instr × Nat) :=
  [(.arrived, kArrived), (.doorsClosed, kDoorsClosed), (.departed, kDeparted), (.position, kPosition),
   (.startRequest, kStartRequest), (.feederReport, kFeederReport), (.frameDone, kFrameDone), (.paBusy, kPaBusy),
   (.paFault, kPaFault), (.paReady, kPaReady), (.helpCall, kHelpCall)]

/-! ## Conditions that every step keeps -/

/-- The timing unit in its ranges (3.1, R158, R160): line time within its field, a slew remainder within ±64, the phase
below 64; an eighth is withheld only by a negative remainder. -/
def Timing.inRange (t : Timing) : Prop :=
  t.lineTime ≤ Config.maxTime ∧ -64 ≤ t.slew ∧ t.slew ≤ 64 ∧ t.phase < 64 ∧ (t.withhold = true → t.slew < 0)

/-- A port within its capacities (R182, R183). -/
def PortState.inRange (v : PortState) : Prop :=
  v.fifo.length ≤ Config.fifoCap ∧ v.urgent.length ≤ Config.urgentCap ∧ v.normal.length ≤ Config.normalCap

def State.portsInRange (s : State) : Prop := s.fieldPort.inRange ∧ s.consolePort.inRange

/-- Law 12: the effective values are those of the ACTIVE incidents' effects; what the cleared list names is
CLEARED-UNACK. -/
def State.law12 (s : State) : Prop :=
  s.inc = s.inc.derive s.inc.activeEffects ∧ (s.inc.cleared.all (fun i => match s.incident i with
    | some v => decide (v.st = .clearedUnack)
    | none => false)) = true

/-- Law 6: a ring holds at most 32 records, whose scheduled departures do not fall from head to tail. -/
def State.law6 (s : State) : Prop :=
  ∀ p, (s.plat p).ring.length ≤ Config.ringCap ∧ ((s.plat p).ring.map CallRecord.schedDep).Pairwise (· ≤ ·)

/-- The head position and the active reference of a ring lie below 32, and its only ACTIVE record is the one at the
reference (R17). -/
def Platform.servesOne (pl : Platform) : Prop :=
  pl.head < Config.ringCap ∧ (∀ a, pl.active = some a → a < Config.ringCap) ∧
  ∀ i r, pl.ring[i]? = some r → r.disp = .active → pl.activeIdx = some i

/-- Every ring has at most one ACTIVE record, at its reference (R17). -/
def State.callsServedOnce (s : State) : Prop := ∀ p, (s.plat p).servesOne

/-- Law 8, in part: a zone queue has at most 8 entries. -/
def State.zonesInRange (s : State) : Prop := ∀ k, (s.zone k).queue.length ≤ Config.zoneCap

/-- R138: a zone in FAULT has no PLAYING entry. -/
def State.faultsPlayNothing (s : State) : Prop := ∀ k, (s.zone k).st = .fault → (s.zone k).playing = none

/-- Law 8, in part (R138): at most one entry of a zone is PLAYING, and none in an IDLE zone. -/
def State.zonesPlayOne (s : State) : Prop :=
  ∀ k, ((s.zone k).queue.filter QEntry.isPlaying).length ≤ 1 ∧ ((s.zone k).st = .idle → (s.zone k).playing = none)

/-- R185: a room list names only blocks that hold a frame waiting for its queue. -/
def State.roomsHold (s : State) : Prop := ∀ p q b, b ∈ (s.port p).room q → s.holds p q b = true

/-- The batch buffer holds at most 24 outcomes (R48). -/
def State.outcomesInRange (s : State) : Prop := s.reg.outcomes.length ≤ Config.outcomeCap

/-- Every table is in its canonical form: indices strictly rising, no entry equal to the reset record. -/
def State.tablesWf (s : State) : Prop :=
  Tab.wf {} s.cls.units = true ∧ Tab.wf none s.cls.consoles = true ∧ Tab.wf {} s.tim.supervision = true ∧
  Tab.wf {} s.reg.trains = true ∧ Tab.wf none s.reg.notices = true ∧ Tab.wf {} s.reg.platforms = true ∧
  Tab.wf {} s.pow.feeders = true ∧ Tab.wf {} s.pow.sections = true ∧ Tab.wf .free s.pow.pool = true ∧
  Tab.wf {} s.inc.kinds = true ∧ Tab.wf none s.inc.entries = true ∧ Tab.wf none s.inc.notices = true ∧
  Tab.wf false s.inc.interlock = true ∧ Tab.wf 8 s.inc.fraction = true ∧ Tab.wf false s.inc.held = true ∧
  Tab.wf false s.inc.headway = true ∧
  Tab.wf none s.com.stations = true ∧ Tab.wf none s.com.templates = true ∧ Tab.wf {} s.com.zones = true ∧
  Tab.wf {} s.com.armings = true

/-- A frame whose fields fit their places in Table 11-3. -/
def Frame.fits (f : Frame) : Prop := f.dst < 4096 ∧ f.src < 4096 ∧ f.kind < 256 ∧ f.payload.length ≤ Config.payloadCap

end Sys2Proof.Machine
end

