-- ==== Sys2Proof/WellFormed.lean ====
section
/-! DEFINITION. Which commands name something that exists: a command's index lies in the range Table 0-4 gives for it.
Telegram contents are not judged here: the port and the owning blocks judge them, by rule. -/

namespace Sys2Proof

/-- The operand of a command that names an item lies in its index range (Tables 0-3 and 0-4). -/
def Instr.wf : Instr → Bool
  | .releaseInstant slot => decide (slot < Config.slots)
  | .reservationExpiry slot => decide (slot < Config.slots)
  | .switchingDeadline sect => decide (sect < Config.sections)
  | .acknowledgementDeadline entry => decide (entry < Config.entries)
  | .frameDeadline zone => decide (zone < Config.zones)
  | .gapEnd zone => decide (zone < Config.zones)
  | .lockAgeRelease zone => decide (zone < Config.zones)
  | .silenceExpiry addr => decide (addr < 4096)
  | .displayUpdate platform => decide (platform < Config.platforms)
  | .resetAsserted => true
  | .resetReleased _ => true
  | .lineTimeStep => true
  | .slewCorrection => true
  | .displayCycle => true
  | .lineTimePublication => true
  | .frameReceived _ _ => true
  | .linkDown _ => true
  | .frameTransmission _ => true
  | .queueRoom _ _ => true
  | .fieldFrame => true
  | .arrived => true
  | .doorsClosed => true
  | .departed => true
  | .position => true
  | .startRequest => true
  | .feederReport => true
  | .frameDone => true
  | .paBusy => true
  | .paFault => true
  | .paReady => true
  | .helpCall => true
  | .callOutcomes => true
  | .consoleFrame => true
  | .passThrough => true
  | .consoleDepartPermit => true
  | .consoleEnergiseOrder => true
  | .consolePaFrame => true
  | .consolePaAbort => true
  | .unknownRequest => true
  | .status => true
  | .query => true
  | .startOperation => true
  | .stopOperation => true
  | .setClock => true
  | .slewClock => true
  | .loadConsole => true
  | .loadUnit => true
  | .loadStation => true
  | .loadPlatform => true
  | .loadSection => true
  | .loadFeeder => true
  | .loadClasses => true
  | .loadKind => true
  | .loadTemplate => true
  | .loadZone => true
  | .bindTrain => true
  | .releaseTrain => true
  | .appendCalls => true
  | .cancelCall => true
  | .setPlatformMode => true
  | .raiseIncident => true
  | .ackIncident => true
  | .clearIncident => true
  | .isolateSection => true
  | .energiseSection => true
  | .announce => true
  | .armAnnouncement => true
  | .lockZone => true
  | .unlockZone => true

end Sys2Proof
end

