-- ==== Sys2Proof/Certificates/Slice0/Obligations.lean ====
section
/-! DEFINITION. The statements for the provers, each over every state (or every state that meets its premises), in the
order of OBLIGATIONS.json. A premise about a state speaks of the state and the operands only. -/

open Sys2Proof Sys2Proof.Machine

/-! ## The queue of commands and reset -/

/-- A step takes the command at the front of the queue and runs it on the state with the queue's rest. (On an empty queue
the block idles: the model's choice, log entry 3.) -/
def Obligations.StepTakesFrontCommand : Prop :=
  (∀ (c : Instr) (s : State) (rest : List Instr), s.pending = c :: rest → step s = exec c { s with pending := rest }) ∧
  ∀ s : State, s.pending = [] → step s = .next s

/-- Every command whose index exists answers a next state. A command with an index that does not exist is a fault: that is
the model's choice, not the spec's, which has no such item (log entry 30). -/
def Obligations.ExistingIndexCompletes : Prop :=
  ∀ (c : Instr) (s : State), if c.wf = true then ∃ t, exec c s = .next t else ∃ r, exec c s = .fault r

/-- R200, R168, Table 12-7: while the reset input is asserted every block holds its reset state, no port takes a frame,
transmits or drops its link, and no step is made; releasing it samples the straps into console entry 0 and gives every item
its reset value, whatever the state before. (The model's choices: that no console is listed before the straps are sampled,
that a release needs no assertion before it, and that the queue of commands is the sender's and stays, log entry 29; the
tested classes are the model's own field, log entry 31.) -/
def Obligations.ResetHoldsThenGivesResetValues : Prop :=
  (∀ s : State, ∃ t, exec .resetAsserted s = .next t ∧
      t = { resetHeld := true, pending := s.pending, hnd := { op := .configuring, replyHold := none },
            cls := { units := [], consoles := [], unknownSource := 0, roleMismatch := 0 } } ∧
      t.fieldPort = {} ∧ t.consolePort = {} ∧ t.reg = {} ∧ t.pow = {} ∧ t.inc = {} ∧ t.com = {} ∧ t.tim = {} ∧
      ∀ p run, t.untouched (.frameReceived p run) ∧ t.untouched (.frameTransmission p) ∧ t.untouched (.linkDown p) ∧
        t.untouched .lineTimeStep ∧ t.untouched .fieldFrame ∧ t.untouched .consoleFrame) ∧
  ∀ (straps : BitVec 12) (s : State), ∃ t, exec (.resetReleased straps) s = .next t ∧
    t.pending = s.pending ∧ t.resetHeld = false ∧ t.hnd = { op := .configuring, replyHold := none } ∧
    t.console 0 = some { addr := straps.toNat, privs := ⟨false, false, false, true⟩ } ∧
    (∀ e, e ≠ 0 → t.console e = none) ∧ (∀ a, t.unit a = { role := .unused, index := 0, policy := .act, silence := none }) ∧
    t.cls.unknownSource = 0 ∧ t.cls.roleMismatch = 0 ∧
    t.tim = { lineTime := 0, clockSet := false, slew := 0, phase := 0, interval := 0, silence0 := 8, silence1 := 16,
              silence2 := 32, silence3 := 64, supervision := [], waiting := false, tested := (8, 16, 32, 64),
              correctionDue := false, withhold := false, displayDue := false, publishDue := false } ∧
    (∀ a, t.supervision a = { lastHeard := 0, silent := false }) ∧
    (∀ n, t.slot n =
      { addr := none, trip := 0, cls := 0, st := .free, platform := none, sect := none, lateness := none, lastHeard := 0,
        release := none, relBase := none, consolePermit := false, noTraction := false, stay := none, advice := none,
        permit := none } ∧ t.trainNotice n = none ∧ t.pool n = .free) ∧
    (∀ p, t.plat p =
      { loaded := false, station := 0, display := 0, sect := 0, zones := [], displayAddr := 0, mode := .off, hmax := 0,
        early := 0, lateLimit := 0, lapse := 0, lastDep := none, lastSched := none, active := none, cellNow := [],
        cellSent := [], lastSend := 0, cellPending := false, cellSince := none, head := 0, ring := [] }) ∧
    t.reg.outcomes = [] ∧ t.reg.outcomeLoss = 0 ∧
    (∀ i, t.feeder i =
      { loaded := false, substation := 0, number := 0, sect := 0, history := [], median := 0, breaker := .unknown,
        stale := false, waiting := none }) ∧
    (∀ k, t.sect k =
      { loaded := false, cap := 0, window := 4, st := .unknown, attempts := 0, deadline := none, overCount := 0,
        underCount := 0, m := 0, measLost := false, notice := none, ceff := 0, queue := [], reserved := 0 }) ∧
    (t.pow.demand0, t.pow.demand1, t.pow.demand2, t.pow.demand3) = (0, 0, 0, 0) ∧
    (∀ i, t.incident i = none ∧ t.incNotice i = none) ∧ t.inc.cleared = [] ∧ t.inc.order = [] ∧
    t.inc.nextNumber = 1 ∧ t.inc.overflow = 0 ∧
    (∀ k, 1 ≤ k → k ≤ 8 → t.kind k =
      { present := true, severity := 2, ackLimit := 60, templates := [], clearance := none,
        selfClearing := decide (k ≠ 5 ∧ k ≠ 8), clearPriv := if k = 2 ∨ k = 3 ∨ k = 7 ∨ k = 8 then .power else .dispatch }) ∧
    (∀ k, k = 0 ∨ 9 ≤ k → (t.kind k).present = false) ∧
    (∀ k, t.interlocked k = false ∧ t.fraction k = 8 ∧ t.platHeld k = false ∧ t.platHeadway k = false) ∧
    (∀ n, t.station n = none ∧ t.template n = none ∧ t.arming n = { template := none, cls := 1, repeating := false }) ∧
    (∀ z, t.zone z =
      { loaded := false, addr := none, station := 0, platform := none, st := .idle, cause := none, lock := .unlocked,
        lockInstant := 0, queue := [], playBuf := ⟨[], false⟩, suspBuf := ⟨[], false⟩, outstanding := none,
        deadline := none, expiryRun := 0, gapEnd := none, tagCounter := 1, abort := none, notice := none }) ∧
    t.com.zoneDrops = 0 ∧
    ∀ p, t.port p =
      { fifo := [], urgent := [], normal := [], urgentRoom := [], normalRoom := [], transmitting := none, linkDown := false,
        crcErrors := 0, framingErrors := 0, inboundOverflows := 0, outboundDiscards := 0, linkDownEvents := 0 }

/-! ## Links and frames -/

/-- R181, Table 11-3: the run that a port transmits for a frame is received as that frame, for every frame whose fields
fit; so no bit of a frame is lost on a link. -/
def Obligations.FrameRoundTrip : Prop := ∀ f : Frame, f.fits → receive f.toRun = .valid f

/-- R181, R182: a run shorter than 7 bytes, with a length byte above 56 or of another size than it says is counted as a
framing error; a frame whose CRC bytes do not match is counted as a CRC error; a frame that arrives whole clears the
link-down flag and joins the end of the FIFO, or is counted as an overflow when the FIFO holds 32 frames. -/
def Obligations.FrameReceptionFillsFifo : Prop :=
  ∀ (s : State) (p : Port), s.resetHeld = false →
    let v := s.port p
    (∀ run : List Byte, (run.length < 7 ∨ ∃ b, run[4]? = some b ∧ (56 < b.toNat ∨ run.length ≠ 7 + b.toNat)) →
      exec (.frameReceived p run) s = .next (s.setPort p { v with framingErrors := min (v.framingErrors + 1) 65535 })) ∧
    ∀ f : Frame, f.fits →
      exec (.frameReceived p f.toRun) s = .next (s.setPort p (
        if v.fifo.length < 32 then { v with linkDown := false, fifo := v.fifo ++ [f] }
        else { v with linkDown := false, inboundOverflows := min (v.inboundOverflows + 1) 65535 })) ∧
      ∀ h l : Byte, f.toRun ≠ f.toRun.take (5 + f.payload.length) ++ [h, l] →
        exec (.frameReceived p (f.toRun.take (5 + f.payload.length) ++ [h, l])) s =
          .next (s.setPort p { v with crcErrors := min (v.crcErrors + 1) 65535 })

/-- R183, R186: the transmitter takes the urgent queue's front frame before the normal queue's; the loss of a link flushes
both queues once, each flushed frame a discard, and keeps the FIFO and the other port. -/
def Obligations.TransmissionAndLinkLoss : Prop :=
  ∀ (s : State) (p : Port), s.resetHeld = false →
    (∃ t, exec (.frameTransmission p) s = .next t ∧ ∃ v, t = s.setPort p v ∧
      match (s.port p).urgent, (s.port p).normal with
      | f :: u, n => v = { s.port p with urgent := u, normal := n, transmitting := some f }
      | [], f :: n => v = { s.port p with normal := n, transmitting := some f }
      | [], [] => v = s.port p) ∧
    (∃ t, exec (.linkDown p) s = .next t ∧
      (if (s.port p).linkDown = true then t = s
       else t = s.setPort p { s.port p with
          linkDown := true, urgent := [], normal := [],
          linkDownEvents := min ((s.port p).linkDownEvents + 1) 65535,
          outboundDiscards := min ((s.port p).outboundDiscards + ((s.port p).urgent.length + (s.port p).normal.length)) 65535 }) ∧
      t.untouched (.linkDown p))

/-- R184, R185: a free place goes to the block at the front of the room list, which queues one waiting frame. On the
console port that is the reply from the hold, the first pending INCIDENT NOTICE of that queue (R108), the pending notice of the
lowest slot, section or zone (R14, R72, R156), or CALL OUTCOMES where no TRAIN NOTICE waits (R49); on the field port the LINE
TIME of that moment (R161), or the frame of the regulator, power unit or composer that has waited longest (R67, R143); a
breaker order joins the urgent queue while that has room, whichever place is given (R67, log entry 39). The block rejoins the
tail of the list if it holds another frame for the queue. (A frame deadline set at the last line time is kept as one that no
step reaches: log entry 4.) -/
def Obligations.QueueRoomServesFrontBlock : Prop :=
  (∀ (s : State) (q : Lane) (rest : List Block), s.hasRoom .console q = true →
    (∀ f, s.consolePort.room q = .requestHandler :: rest → s.hnd.replyHold = some f →
      ∃ t, exec (.queueRoom .console q) s = .next t ∧ t.hnd = { s.hnd with replyHold := none } ∧
        s.gave t .console q q .requestHandler rest f ∧ s.onlyChanges t [.hnd, .consolePort] ∧
        .requestHandler ∉ t.consolePort.urgentRoom ∧ .requestHandler ∉ t.consolePort.normalRoom) ∧
    (∀ (i : Nat) (after : List Nat) (n : IncNotice), s.consolePort.room q = .incidentUnit :: rest →
      s.inc.order = i :: after → i ∉ after → s.incNotice i = some n → n.lane = q →
      ∃ t, exec (.queueRoom .console q) s = .next t ∧ t.incNotice i = none ∧ t.inc.order = after ∧
        t.inc.entries = s.inc.entries ∧
        t.inc = { s.inc with order := t.inc.order, notices := t.inc.notices } ∧
        (∀ j, j ≠ i → t.incNotice j = s.incNotice j) ∧
        s.gave t .console q q .incidentUnit rest n.frame ∧ s.onlyChanges t [.inc, .consolePort])) ∧
  (∀ (s : State) (rest : List Block), s.hasRoom .console .normal = true →
    (∀ (n : Nat) (m : TrainNotice), s.consolePort.normalRoom = .regulator :: rest → n < Config.slots →
      s.trainNotice n = some m → (∀ j, j < n → s.trainNotice j = none) →
      ∃ t, exec (.queueRoom .console .normal) s = .next t ∧ t.trainNotice n = none ∧
        (∀ j, j ≠ n → t.trainNotice j = s.trainNotice j) ∧ t.reg = { s.reg with notices := t.reg.notices } ∧
        s.gave t .console .normal .normal .regulator rest (m.frame n) ∧ s.onlyChanges t [.reg, .consolePort]) ∧
    (s.consolePort.normalRoom = .regulator :: rest → (∀ j, j < Config.slots → s.trainNotice j = none) →
      s.outcomesDue = true →
      ∃ t, exec (.queueRoom .console .normal) s = .next t ∧ t.reg = { s.reg with outcomes := s.reg.outcomes.drop 3 } ∧
        s.gave t .console .normal .normal .regulator rest (callOutcomes (s.reg.outcomes.take 3)) ∧
        s.onlyChanges t [.reg, .consolePort]) ∧
    (∀ (k : Nat) (n : SectNotice), s.consolePort.normalRoom = .powerUnit :: rest → k < Config.sections →
      (s.sect k).notice = some n → (∀ j, j < k → (s.sect j).notice = none) →
      ∃ t, exec (.queueRoom .console .normal) s = .next t ∧ t.sect k = { s.sect k with notice := none } ∧
        (∀ j, j ≠ k → t.sect j = s.sect j) ∧ t.pow = { s.pow with sections := t.pow.sections } ∧
        s.gave t .console .normal .normal .powerUnit rest (n.frame k (s.sect k)) ∧ s.onlyChanges t [.pow, .consolePort]) ∧
    (∀ (z : Nat) (n : ZoneNotice), s.consolePort.normalRoom = .composer :: rest → z < Config.zones →
      (s.zone z).notice = some n → (∀ j, j < z → (s.zone j).notice = none) →
      ∃ t, exec (.queueRoom .console .normal) s = .next t ∧ t.zone z = { s.zone z with notice := none } ∧
        (∀ j, j ≠ z → t.zone j = s.zone j) ∧ t.com = { s.com with zones := t.com.zones } ∧
        s.gave t .console .normal .normal .composer rest (n.frame z) ∧ s.onlyChanges t [.com, .consolePort])) ∧
  (∀ (s : State) (rest : List Block),
    s.hasRoom .field .normal = true → s.fieldPort.normalRoom = .timingUnit :: rest → s.tim.waiting = true →
    ∃ t, exec (.queueRoom .field .normal) s = .next t ∧ t.tim = { s.tim with waiting := false } ∧
      s.gave t .field .normal .normal .timingUnit rest (lineTimeTelegram s.now s.tim.slew) ∧ s.onlyChanges t [.tim, .fieldPort]) ∧
  ∀ (s : State) (q : Lane) (rest : List Block) (since i : Nat), s.hasRoom .field q = true →
    (∀ w, s.fieldPort.room q = .regulator :: rest → longestWaiting (s.trainWaits q) (since, i, w) →
      ∃ t, exec (.queueRoom .field q) s = .next t ∧ s.onlyChanges t [.reg, .fieldPort] ∧
      match w with
      | .advice n f => s.gave t .field q q .regulator rest f ∧ t.slot n = { s.slot n with advice := none } ∧
          (∀ j, j ≠ n → t.slot j = s.slot j) ∧ t.reg = { s.reg with trains := t.reg.trains }
      | .permit n f => s.gave t .field q q .regulator rest f ∧ t.slot n = { s.slot n with permit := none } ∧
          (∀ j, j ≠ n → t.slot j = s.slot j) ∧ t.reg = { s.reg with trains := t.reg.trains }
      | .cell p =>
          s.gave t .field q q .regulator rest
            (displayUpdate (s.plat p).displayAddr (s.plat p).display (s.plat p).cellNow) ∧
          t.plat p = { s.plat p with cellSent := (s.plat p).cellNow, lastSend := s.now, cellPending := false,
                                     cellSince := none } ∧
          (∀ j, j ≠ p → t.plat j = s.plat j) ∧ t.reg = { s.reg with platforms := t.reg.platforms }) ∧
    (∀ f, s.fieldPort.room q = .powerUnit :: rest → longestWaiting s.orderWaits (since, i, (i, f)) →
      ∃ t, exec (.queueRoom .field q) s = .next t ∧
      s.gave t .field q (if s.fieldPort.urgent.length < Config.urgentCap then .urgent else q) .powerUnit rest f ∧
      t.feeder i = { s.feeder i with waiting := none } ∧ (∀ j, j ≠ i → t.feeder j = s.feeder j) ∧
      t.pow = { s.pow with feeders := t.pow.feeders } ∧ s.onlyChanges t [.pow, .fieldPort]) ∧
    ∀ abort, s.fieldPort.room q = .composer :: rest → longestWaiting (s.zoneWaits q) (since, i, (i, abort)) →
      ∃ t, exec (.queueRoom .field q) s = .next t ∧ (∀ j, j ≠ i → t.zone j = s.zone j) ∧
      t.com = { s.com with zones := t.com.zones } ∧ s.onlyChanges t [.com, .fieldPort] ∧
      if abort = true then
        s.gave t .field q q .composer rest (paAbort ((s.zone i).addr.getD 0) i) ∧
        t.zone i = { s.zone i with abort := none }
      else ∃ o, (s.zone i).outstanding = some o ∧
        s.gave t .field q q .composer rest ((s.zone i).paFrame i o) ∧
        t.zone i = { s.zone i with
          outstanding := some { o with queued := true },
          deadline := some (s.instant (s.now + (32 + 8 * ((s.zone i).playBuf.frameCodes o.idx).length))) }

/-! ## Line time -/

/-- R158, R160: a reference eighth adds one eighth to line time while the part is RUNNING, and makes no step while
CONFIGURING, at the maximum, or where a negative slew correction withholds it; nothing outside the timing unit changes.
While a remainder is left, each ordinary step counts 1 in the phase, and the 64th returns the phase to 0 and makes a
correction due. (That a step tests the silence classes of its moment is kept in the model's own field, log entry 31.) -/
def Obligations.LineTimeStepAddsOneEighth : Prop :=
  ∀ s : State, ∃ t, exec .lineTimeStep s = .next t ∧
    t = s.setTim t.tim ∧ t.tim.clockSet = s.tim.clockSet ∧ t.tim.supervision = s.tim.supervision ∧
    t.now = (if s.running = true ∧ s.now < Config.maxTime ∧ s.tim.withholds = false then s.now + 1 else s.now) ∧
    (s.running = true → s.now < Config.maxTime → s.tim.withholds = true →
      t.tim.slew = s.tim.slew + 1 ∧ t.tim.withhold = false ∧ t.tim.phase = s.tim.phase) ∧
    (s.running = true → s.now < Config.maxTime → s.tim.withholds = false → t.tim.slew = s.tim.slew ∧
      (t.tim.displayDue = true ↔ s.tim.displayDue = true ∨ (s.now + 1) % 64 = 0) ∧
      (t.tim.publishDue = true ↔ s.tim.publishDue = true ∨
        (s.tim.interval ≠ 0 ∧ (s.now + 1) % (8 * s.tim.interval) = 0)) ∧
      t.tim.tested = (s.tim.silence0, s.tim.silence1, s.tim.silence2, s.tim.silence3) ∧
      (t.tim.phase, t.tim.correctionDue) =
        (if s.tim.slew = 0 then (s.tim.phase, s.tim.correctionDue)
         else if s.tim.phase + 1 < 64 then (s.tim.phase + 1, s.tim.correctionDue) else (0, true)))

/-- R160: with a remainder, the step that brings the phase to 64 makes a correction, and the phase returns to 0: one extra
step for a positive remainder, the next reference eighth withheld for a negative one, and the remainder moves one eighth
towards 0. -/
def Obligations.SlewCorrectionMovesRemainder : Prop :=
  (∀ s : State, s.running = true → s.now < Config.maxTime → s.tim.withhold = false → s.tim.correctionDue = true →
    (0 < s.tim.slew → ∃ t, exec .slewCorrection s = .next t ∧ t = s.setTim t.tim ∧ t.now = s.now + 1 ∧
      t.tim.slew = s.tim.slew - 1 ∧ t.tim.phase = s.tim.phase ∧ t.tim.correctionDue = false) ∧
    (s.tim.slew < 0 → ∃ t u, exec .slewCorrection s = .next t ∧ exec .lineTimeStep t = .next u ∧ t.now = s.now ∧
      u = s.setTim u.tim ∧ u.now = s.now ∧ u.tim.slew = s.tim.slew + 1 ∧ u.tim.phase = s.tim.phase ∧
      u.tim.correctionDue = false ∧ u.tim.withhold = false)) ∧
  ∀ s : State, s.running = true → s.now + 1 < Config.maxTime → s.tim.withhold = false → s.tim.correctionDue = false →
    s.tim.phase = 63 → s.tim.slew ≠ 0 → ∃ t u v, exec .lineTimeStep s = .next t ∧ exec .slewCorrection t = .next u ∧
    exec .lineTimeStep u = .next v ∧ t.now = s.now + 1 ∧ t.tim.phase = 0 ∧ t.tim.correctionDue = true ∧
    (0 < s.tim.slew → u.now = s.now + 2 ∧ u.tim.slew = s.tim.slew - 1 ∧ u.tim.phase = 0) ∧
    (s.tim.slew < 0 → v.now = s.now + 1 ∧ v.tim.slew = s.tim.slew + 1 ∧ v.tim.phase = 0)

/-- R24, R46: a display cycle leaves every loaded platform with the cell content of the moment, and with no finished and
no lapsed head: a PENDING head, or an orphaned ACTIVE head, does not lie more than the lapse limit in the past. -/
def Obligations.DisplayCycleLapsesAndRecomputes : Prop :=
  ∀ s : State, s.running = true → s.tim.displayDue = true → ∃ t, exec .displayCycle s = .next t ∧
    t.tim = { s.tim with displayDue := false } ∧ s.onlyChanges t [.tim, .reg, .fieldPort] ∧
    t.reg.trains = s.reg.trains ∧ t.reg.notices = s.reg.notices ∧
    ∀ p, p < Config.platforms → (s.plat p).loaded = true →
      (t.plat p).cellNow = t.cellContent p ∧ (t.plat p).ring <:+ (s.plat p).ring ∧
      ((t.plat p).ring = (s.plat p).ring ∨ ∀ r, (t.plat p).ring.head? = some r → r.disp.finished = false) ∧
      ∀ r, (t.plat p).ring.head? = some r → r.schedDep + 8 * (s.plat p).lapse < s.now →
        r.disp ≠ .pending ∧ (r.disp = .active → t.orphan p r = false)

/-- R161: a publication that is due puts a LINE TIME telegram with line time and remainder, to address 0, on the field
normal queue; with the queue full it waits, and the timing unit joins the tail of that queue's room list (R185); a second one
is not made while one waits. -/
def Obligations.LineTimePublicationQueues : Prop :=
  ∀ s : State, s.running = true → s.tim.publishDue = true → ∃ t, exec .lineTimePublication s = .next t ∧
    t.tim = { s.tim with publishDue := false, waiting := s.tim.waiting || !s.hasRoom .field .normal } ∧
    s.onlyChanges t [.tim, .fieldPort] ∧
    let kept (q : Lane) : List Block := (s.fieldPort.room q).filter (t.holds .field q)
    t.fieldPort = { s.fieldPort with
      normal := (if s.tim.waiting = false ∧ s.hasRoom .field .normal = true then
        s.fieldPort.normal ++ [{ dst := 0, src := 4095, kind := 0x70, payload := u24 s.now ++ i8 s.tim.slew }]
        else s.fieldPort.normal)
      urgentRoom := kept .urgent
      normalRoom := if s.tim.waiting = false ∧ s.hasRoom .field .normal = false then
        (kept .normal).filter (fun b => decide (b ≠ .timingUnit)) ++ [.timingUnit] else kept .normal }

/-- R159: SET CLOCK takes a line time, in CONFIGURING and with SUPERVISOR, ends the slew, sets the clock-set flag and
moves the kept instants: the display sends, the outcomes' entries and the acknowledgement deadlines. R160: SLEW CLOCK,
while RUNNING and with SUPERVISOR, replaces the remainder by an offset of −64..+64 eighths and restarts the phase; another
offset changes nothing and gets BAD ARGUMENT. -/
def Obligations.ClockRequestsSetAndSlew : Prop :=
  (∀ (s : State) (c : Sender) (time : Nat), s.asks 0xC3 c (u24 time) → time ≤ Config.maxTime →
    c.privs.supervisor = true → s.hnd.op = .configuring → ∃ t, exec .setClock s = .next t ∧
    s.onlyChanges t [.tim, .reg, .inc, .hnd, .consolePort] ∧
    t.tim = { s.tim with lineTime := time, clockSet := true, slew := 0, phase := 0, correctionDue := false,
                         withhold := false } ∧
    (∀ p, p < Config.platforms → t.plat p = { s.plat p with lastSend := 0 }) ∧ t.reg.trains = s.reg.trains ∧
    t.reg.outcomes = s.reg.outcomes.map (fun o => { o with entered := time }) ∧
    (∀ i, i < Config.entries → t.incident i = (s.incident i).map (fun v =>
      if v.st = .activeUnack then { v with deadline := some (min (time + 8 * (s.kind v.kind).ackLimit) Config.maxTime) }
      else v)) ∧
    t.inc.kinds = s.inc.kinds ∧ t.hnd.op = .configuring ∧
    s.replied t (c.reply 0xC3 .accepted (u24 s.now ++ u24 time))) ∧
  ∀ (s : State) (c : Sender) (offset : Int), s.asks 0xC4 c (i8 offset) → -128 ≤ offset → offset ≤ 127 →
    c.privs.supervisor = true → s.hnd.op = .running → ∃ t, exec .slewClock s = .next t ∧ t.hnd.op = .running ∧
    (if -64 ≤ offset ∧ offset ≤ 64 then
      s.onlyChanges t [.tim, .hnd, .consolePort] ∧
      t.tim = { s.tim with slew := offset, phase := 0, correctionDue := false, withhold := false } ∧
      s.replied t (c.reply 0xC4 .accepted (i8 s.tim.slew))
    else s.onlyChanges t [.hnd, .consolePort] ∧ s.replied t (c.reply 0xC4 .badArgument []))

/-! ## Field telegrams -/

/-- R182, R170, R164: every command that takes a field telegram takes the front frame, refreshes its source's last-heard
instant, ends the source's silence (a LOST train is LOST no more, the silent flag of any other unit is clear), and leaves line
time, the unit map, the console table and the operating state alone. -/
def Obligations.FieldCommandsTakeFrontFrame : Prop :=
  ∀ (c : Instr) (kind : Nat) (s : State) (f : Frame), (c, kind) ∈ fieldTable →
    s.front .field = some f → s.actedOn f = true → f.kind = kind → ∃ t, exec c s = .next t ∧
    t.fieldPort.fifo = s.fieldPort.fifo.drop 1 ∧ t.consolePort.fifo = s.consolePort.fifo ∧
    (t.supervision f.src).lastHeard = s.now ∧
    (match s.trainOf f.src with
      | some n => (t.slot n).lastHeard = s.now ∧ (t.slot n).st ≠ .lost
      | none => (t.supervision f.src).silent = false) ∧ t.now = s.now ∧ t.cls = s.cls ∧ t.hnd = s.hnd ∧
    t.pending = s.pending ∧ t.event = s.event + 1

/-- R170 to R172: a field frame that no owner acts on is dropped and counted when its source is unknown; otherwise its
source is refreshed, its copy goes to the consoles by policy, and a kind that does not fit a tested role is counted. R164,
R15: taken while RUNNING from a silent unit it ends the silence: a LOST train recovers to RUNNING off any platform, with kind
1 self-cleared and a notice RECOVERED due; a substation's flag and kind 7 clear, and its feeders stay stale; a PA unit's flag
clears, and its zones in FAULT leave FAULT where the cause is SILENCE and nowhere else. -/
def Obligations.UnactedFieldFrames : Prop :=
  (∀ (s : State) (f : Frame), s.front .field = some f → s.actedOn f = false → (s.running = true → s.calm f.src) →
    ∃ t, exec .fieldFrame s = .next t ∧ t.fieldPort.fifo = s.fieldPort.fifo.drop 1 ∧
    ((s.unit f.src).role = .unused → s.onlyChanges t [.cls, .fieldPort] ∧
      t.cls = { s.cls with unknownSource := min (s.cls.unknownSource + 1) 65535 }) ∧
    ((s.unit f.src).role ≠ .unused → s.copied t f ∧ s.timHeard t f.src ∧
      s.onlyChanges t [.cls, .tim, .reg, .fieldPort, .consolePort] ∧
      t.reg = { s.reg with trains := t.reg.trains } ∧
      (∀ n, t.slot n = if s.trainOf f.src = some n then { s.slot n with lastHeard := s.now } else s.slot n) ∧
      t.cls = (if (s.unit f.src).policy.acts = true ∧ (s.unit f.src).role.fits f.kind = false
               then { s.cls with roleMismatch := min (s.cls.roleMismatch + 1) 65535 } else s.cls))) ∧
  ∀ (s : State) (f : Frame), s.front .field = some f → s.actedOn f = false → s.running = true →
    (s.unit f.src).role ≠ .unused → ¬ s.calm f.src → ∃ t, exec .fieldFrame s = .next t ∧
    t.fieldPort.fifo = s.fieldPort.fifo.drop 1 ∧ (t.supervision f.src).lastHeard = s.now ∧
    (∀ n, s.trainOf f.src = some n → (∀ k d i r, s.pool n ≠ .queued k d i r) →
      (t.slot n).st = .running ∧ (t.slot n).platform = none ∧ (t.slot n).lastHeard = s.now ∧
      s.selfCleared t 1 (trainAt n) ∧ t.recoveredDue n) ∧
    ((s.unit f.src).role ≠ .train → t.supervision f.src = { lastHeard := s.now, silent := false }) ∧
    ((s.unit f.src).role = .substation → s.selfCleared t 7 (substationAt (s.unit f.src).index) ∧ ∀ i, t.feeder i = s.feeder i) ∧
    ((s.unit f.src).role = .paUnit → ∀ z, z < Config.zones → (s.zone z).loaded = true → (s.zone z).addr = some f.src →
      (s.zone z).st = .fault →
      if (s.zone z).cause = some .silence then (t.zone z).st ≠ .fault ∧ (t.zone z).cause = none ∧ s.selfCleared t 6 (zoneAt z)
      else (t.zone z).st = .fault ∧ (t.zone z).cause = (s.zone z).cause)

/-- R6: POSITION records the section and the no-traction flag, and places an UNPLACED slot. -/
def Obligations.PositionRecordsSection : Prop :=
  ∀ (s : State) (f : Frame) (n k : Nat), s.hearsTrain f kPosition (u8 k) n → k < Config.sections →
    (s.sect k).loaded = true → ∃ t, exec .position s = .next t ∧
    t.slot n = { s.slot n with sect := some k, noTraction := decide ((s.sect k).st ≠ .energised), lastHeard := s.now,
                               st := if (s.slot n).st = .unplaced then .running else (s.slot n).st } ∧
    (∀ j, j ≠ n → t.slot j = s.slot j) ∧ t.reg = { s.reg with trains := t.reg.trains } ∧
    s.timHeard t f.src ∧ s.copied t f ∧ s.onlyChanges t [.tim, .reg, .fieldPort, .consolePort]

/-- R7, R21, R22, R40: a RUNNING train that arrives at a platform with no ACTIVE call dwells there with the reported trip.
A match becomes the ACTIVE call with the PENDING records before it SKIPPED and retired, and sets the lateness; without a
match the slot keeps its lateness and a stay record. R135: an announcement armed at the platform is offered to its zones, and
stays armed only when it repeats. R8: an ARRIVED at the platform where the slot already stands is ignored: only the shared
stages of a frame happen. R10: a call left ACTIVE at the platform becomes DEPARTED unseen and retires before the match, and a
slot that still serves it there goes to RUNNING, off the platform. R9: an ARRIVED from a slot that stands at another platform
closes its stay there as unseen, and then arrives. -/
def Obligations.ArrivedMatchesCall : Prop :=
  (∀ (s : State) (f : Frame) (n p trip : Nat), s.hearsTrain f kArrived (u8 p ++ u16 trip) n →
    p < Config.platforms → (s.plat p).loaded = true → trip < 65536 →
    (s.slot n).st = .running → (s.plat p).activeCall = none → ∃ t, exec .arrived s = .next t ∧
    (t.slot n).st = .dwelling ∧ (t.slot n).platform = some p ∧ (t.slot n).trip = trip ∧ (t.slot n).release = none ∧
    (t.slot n).addr = (s.slot n).addr ∧ (t.slot n).cls = (s.slot n).cls ∧ (t.slot n).sect = (s.slot n).sect ∧
    (∀ j, j ≠ n → t.slot j = s.slot j) ∧ s.onlyChanges t [.tim, .reg, .com, .fieldPort, .consolePort] ∧
    (∀ q, q ≠ p → (t.plat q).ring = (s.plat q).ring) ∧
    (t.plat p).ring = ringArrived (s.plat p).ring ((s.plat p).matchTrip trip) n s.now ∧
    (match (s.plat p).matchTrip trip with
      | none => (t.slot n).lateness = (s.slot n).lateness ∧ (t.slot n).stay = some { arrival := s.now } ∧
          t.reg.outcomes = s.reg.outcomes
      | some m => ∃ r, (s.plat p).ring[m]? = some r ∧ r.trip = trip ∧ (t.slot n).stay = none ∧
          (t.slot n).lateness = some (satLateness ((s.now : Int) - r.schedArr))) ∧
    t.arming p = (if (s.arming p).repeating = true then s.arming p else { s.arming p with template := none }) ∧
    ∀ template z, (s.arming p).template = some template → z ∈ (s.plat p).zones → (s.zone z).loaded = true →
      (s.zone z).queue.length < 8 →
      (∀ x ∈ (s.zone z).queue, ¬ (x.template = template ∧ x.arg1 = 255 ∧ x.arg2 = 255 ∧ x.tag = none)) →
      ((s.zone z).st = .fault ∨ ((s.zone z).st ≠ .idle ∧ (s.arming p).cls < 4)) →
      (t.zone z).queue = (s.zone z).queue ++
        [{ template := template, cls := (s.arming p).cls, repeats := 1, arg1 := 255, arg2 := 255, origin := .platform p,
           arrival := some { slot := n, call := (((s.plat p).matchTrip trip).bind (fun m => (s.plat p).ring[m]?)).map
                                                 (fun r => (r.trip, r.dest)) } }]) ∧
  (∀ (s : State) (f : Frame) (n p trip : Nat), s.hearsTrain f kArrived (u8 p ++ u16 trip) n → p < 256 → trip < 65536 →
    (s.slot n).atPlatform p = true → ∃ t, exec .arrived s = .next t ∧
    t.slot n = { s.slot n with lastHeard := s.now } ∧ (∀ j, j ≠ n → t.slot j = s.slot j) ∧
    t.reg = { s.reg with trains := t.reg.trains } ∧ s.timHeard t f.src ∧ s.copied t f ∧
    s.onlyChanges t [.tim, .reg, .fieldPort, .consolePort]) ∧
  (∀ (s : State) (f : Frame) (n p trip i u : Nat) (r : CallRecord), s.hearsTrain f kArrived (u8 p ++ u16 trip) n →
    p < Config.platforms → (s.plat p).loaded = true → trip < 65536 → (s.slot n).st = .running →
    (s.plat p).activeCall = some (i, r) → r.slot = some u →
    let v := s.slot u
    let ring := ringLeft (s.plat p).ring i r (if v.atPlatform p = true then r.flags.unseen v.st
      else { r.flags with departureUnseen := true, noPermit := true, noDoorsClosed := false })
    ∃ t, exec .arrived s = .next t ∧ (t.slot n).st = .dwelling ∧ (t.slot n).platform = some p ∧ (t.slot n).trip = trip ∧
    (v.atPlatform p = true → (t.slot u).st = .running ∧ (t.slot u).platform = none ∧ (t.slot u).release = none ∧
      (t.slot u).consolePermit = false ∧ (t.slot u).stay = none ∧ (t.slot u).advice = none ∧ (t.slot u).permit = none ∧
      (t.slot u).lateness = v.lateness ∧ (t.slot u).trip = v.trip) ∧
    (v.st = .lost → v.platform = some p → (t.slot u).st = .lost ∧ (t.slot u).platform = none) ∧
    (t.plat p).ring = ringArrived ring (({ s.plat p with ring := ring } : Platform).matchTrip trip) n s.now) ∧
  ∀ (s : State) (f : Frame) (n p q trip : Nat), s.hearsTrain f kArrived (u8 p ++ u16 trip) n →
    p < Config.platforms → (s.plat p).loaded = true → trip < 65536 → (s.slot n).atPlatform q = true → q ≠ p →
    (s.plat p).activeCall = none → ∃ t, exec .arrived s = .next t ∧
    (t.slot n).st = .dwelling ∧ (t.slot n).platform = some p ∧ (t.slot n).trip = trip ∧ (t.slot n).release = none ∧
    (t.slot n).consolePermit = false ∧ (t.slot n).advice = none ∧ (t.slot n).permit = none ∧
    (t.plat p).ring = ringArrived (s.plat p).ring ((s.plat p).matchTrip trip) n s.now ∧
    (∀ i r, s.servedCall n q = some (i, r) →
      (t.plat q).ring = ringLeft (s.plat q).ring i r (r.flags.unseen (s.slot n).st)) ∧
    ((s.slot n).st = .waitingPower → ∀ k d j rel, t.pool n ≠ .queued k d j rel) ∧
    ((s.slot n).st = .permitted → ∀ k j a e b, t.pool n ≠ .reservation k j a e b)

/-- R28 to R31, Law 5: the hold of a stay with a call is its target less the earliest instant E0, clamped to 0..Hmax: S − e in
TIMETABLE, and in HEADWAY without a last departure; in HEADWAY the scheduled gap after the last departure, not past the middle
between that departure and the follower's expected arrival with the minimum dwell; none in OFF and for an unscheduled stay.
The release instant is E0 and the hold, at most the last line time. -/
def Obligations.HoldWithinBounds : Prop :=
  ∀ (s : State) (n p closed : Nat),
    (s.holdOf n p closed).1 ≤ 8 * (s.plat p).hmax ∧ (s.holdOf n p closed).2 ≤ Config.maxTime ∧
    (s.servedCall n p = none → s.holdOf n p closed = (0, min closed Config.maxTime)) ∧
    ∀ i r a, s.servedCall n p = some (i, r) → r.arrival = some a →
      let e0 := min (max closed (a + 8 * r.dmin)) Config.maxTime
      let h := (s.holdOf n p closed).1
      let held (target : Int) : Prop := (h : Int) = max 0 (min (8 * ((s.plat p).hmax : Int)) (target - (e0 : Int)))
      let timetable : Int := (r.schedDep : Int) - 8 * (s.plat p).early
      (s.holdOf n p closed).2 = min (e0 + h) Config.maxTime ∧ e0 ≤ (s.holdOf n p closed).2 ∧
      (s.effectiveMode p = .off → h = 0) ∧ (s.effectiveMode p = .timetable → held timetable) ∧
      (s.effectiveMode p = .headway →
        ((s.plat p).lastDep = none ∨ (s.plat p).lastSched = none → held timetable) ∧
        ∀ dep sched : Nat, (s.plat p).lastDep = some dep → (s.plat p).lastSched = some sched →
          let want : Int := (dep : Int) + ((r.schedDep : Int) - sched)
          match ((s.plat p).ring.drop (i + 1)).find? (fun x => decide (x.disp = .pending)) with
          | none => held want
          | some x =>
            let late : Int := match s.boundTo x.trip with | none => 0 | some b => (s.slot b).lateness.getD 0
            held (min want (((dep : Int) + (x.schedArr + late) + 8 * r.dmin) / 2)))

/-- R11, R31, R32: DOORS CLOSED holds the slot until its release instant and advises the train; with no hold and a release
instant that is already here the slot goes on at once, into INCIDENT HOLD at a held platform and into a start request
elsewhere. R15: from a LOST slot whose call stands at that platform it resumes the call in the same way, with the notice
RECOVERED due and kind 1 self-cleared. (In that second clause the hold and the release instant are those that the state before
the event gives, so computed before kind 1 is self-cleared: the model's choice, log entry 43; R15 gives no order. A
release instant set at the last line time is kept as one that no step reaches: log entry 4.) -/
def Obligations.DoorsClosedHolds : Prop :=
  (∀ (s : State) (f : Frame) (n p : Nat), s.hearsTrain f kDoorsClosed (u8 p) n →
    p < Config.platforms → (s.plat p).loaded = true → (s.slot n).platform = some p →
    ((s.slot n).st = .dwelling ∨ (s.slot n).st = .held) →
    let h := (s.holdOf n p s.now).1
    let release := (s.holdOf n p s.now).2
    ∃ t, exec .doorsClosed s = .next t ∧ (t.slot n).platform = some p ∧
    (s.pool n = .free → ∀ j, j ≠ n → t.slot j = s.slot j ∧ t.pool j = s.pool j) ∧
    s.onlyChanges t [.tim, .reg, .pow, .fieldPort, .consolePort] ∧
    (s.hasRoom .field .normal = true →
      holdAdvice ((s.slot n).addr.getD 0) (s.plat p).display h release ∈ t.fieldPort.normal ∧ (t.slot n).advice = none) ∧
    (s.hasRoom .field .normal = false →
      ∃ e, (t.slot n).advice = some ⟨holdAdvice ((s.slot n).addr.getD 0) (s.plat p).display h release, e⟩) ∧
    (if h = 0 ∧ release = s.now then
      (t.slot n).release = none ∧
      (if s.platHeld p = true then (t.slot n).st = .incidentHold else (t.slot n).st = .permitted ∨ (t.slot n).st = .waitingPower)
     else (t.slot n).st = .held ∧ (t.slot n).release = some (s.instant release) ∧ t.pow = s.pow ∧
      ∀ i r, s.servedCall n p = some (i, r) → (t.plat p).ring = (s.plat p).ring.set i { r with hold := h })) ∧
  ∀ (s : State) (f : Frame) (n p i : Nat) (r : CallRecord), s.front .field = some f → s.actedOn f = true →
    f.kind = kDoorsClosed → f.payload = u8 p → s.trainOf f.src = some n → (s.slot n).st = .lost →
    (s.slot n).platform = some p → p < Config.platforms → (s.plat p).loaded = true → s.servedCall n p = some (i, r) →
    s.pool n = .free →
    let h := (s.holdOf n p s.now).1
    let release := (s.holdOf n p s.now).2
    ∃ t, exec .doorsClosed s = .next t ∧ (t.slot n).platform = some p ∧ (t.slot n).lastHeard = s.now ∧
    s.selfCleared t 1 (trainAt n) ∧ t.recoveredDue n ∧
    (if h = 0 ∧ release = s.now then (t.slot n).release = none ∧
      ((t.slot n).st = .incidentHold ∨ (t.slot n).st = .permitted ∨ (t.slot n).st = .waitingPower)
     else (t.slot n).st = .held ∧ (t.slot n).release = some (s.instant release) ∧
      (t.plat p).ring[i]? = some { r with hold := h })

/-- R12, R41: DEPARTED takes the slot off its platform into RUNNING, with its queue entry removed and its lateness that of
the departed call, which retires with the flags of the state it left from; a stay without a call makes its unscheduled outcome
(R22); the reservation of a PERMITTED slot is kept. R42: a departure later than the late limit raises kind 4 at the slot, one
within half of it self-clears kind 4 there, and any other leaves the incidents alone. (The ring has no ACTIVE record but the
one at its reference, R17: `Platform.servesOne`, which every step keeps. The order of these effects is the model's reading, log
entry 13.) -/
def Obligations.DepartedLeavesPlatform : Prop :=
  ∀ (s : State) (f : Frame) (n p : Nat), s.hearsTrain f kDeparted (u8 p) n → p < Config.platforms →
    (s.plat p).loaded = true → (s.plat p).servesOne → (s.slot n).atPlatform p = true →
    let old := s.slot n
    ∃ t, exec .departed s = .next t ∧
    (t.slot n).st = .running ∧ (t.slot n).platform = none ∧ (t.slot n).release = none ∧
    (t.slot n).consolePermit = false ∧ (t.slot n).stay = none ∧ (t.slot n).advice = none ∧ (t.slot n).permit = none ∧
    (t.slot n).trip = old.trip ∧ (t.slot n).addr = old.addr ∧ (∀ k d i r, t.pool n ≠ .queued k d i r) ∧
    ((s.plat p).lateLimit = 0 ∨ s.servedCall n p = none →
      (∀ k i a e r, s.pool n = .reservation k i a e r → t.pool n = s.pool n ∧ t.pow = s.pow) ∧
      s.onlyChanges t [.tim, .reg, .pow, .fieldPort, .consolePort]) ∧
    match s.servedCall n p with
    | none =>
      (t.slot n).lateness = old.lateness ∧ t.reg.outcomes.getLast? = some
        { platform := p, trip := none, disp := .departed, schedArr := none, schedDep := none, slot := some n,
          arrival := old.stay.map Stay.arrival, departure := some s.now, lateness := none,
          hold := (old.stay.map Stay.hold).getD 0, wait := (old.stay.map Stay.wait).getD 0,
          flags := old.stayFlags.departed old.st old.consolePermit, entered := s.now }
    | some (i, r) =>
      let late := satLateness ((s.now : Int) - r.schedDep)
      let limit : Int := (s.plat p).lateLimit
      (t.slot n).lateness = some late ∧
      (t.plat p).ring = ((s.plat p).ring.set i { r with
        disp := .departed, departure := some s.now, lateness := some late,
        flags := r.flags.departed old.st old.consolePermit }).dropWhile (fun x => x.disp.finished) ∧
      (limit ≠ 0 → 8 * limit < late → s.raisedBy t 4 (trainAt n) .regulator ∧
        ∀ j v, s.openIncident 4 (trainAt n) = some j → s.incident j = some v → ∃ w, t.incident j = some w ∧
          w.number = v.number ∧ w.occurrences = min (v.occurrences + 1) 255 ∧ w.st = .activeUnack) ∧
      (limit ≠ 0 → late ≤ 4 * limit → s.selfCleared t 4 (trainAt n)) ∧
      (limit = 0 ∨ (4 * limit < late ∧ late ≤ 8 * limit) → t.inc = s.inc)

/-- R13, R78 to R80, R37, R38: START REQUEST from a train between stations, RUNNING or PERMITTED, with nothing in the pool,
records the section and is placed there: on an open section with an empty queue the full test grants the demand and the reduced
test what the cap leaves, and START GRANT goes to the train with that limit; otherwise the train waits at the tail of the queue.
R13, R84: a reservation from an earlier grant is released first, so the request is placed as on a pool without it; where the
section of that reservation has a queue, its re-evaluation comes between, and the train is granted or queued all the same. (A
reservation's expiry set at the last line time is kept as one that no step reaches: log entry 4.) -/
def Obligations.StartRequestIsPlaced : Prop :=
  ∀ (s : State) (f : Frame) (n k : Nat), s.hearsTrain f kStartRequest (u8 k) n → k < Config.sections →
    (s.sect k).loaded = true → ((s.slot n).st = .running ∨ (s.slot n).st = .permitted) → (s.slot n).platform = none →
    let d := s.demandOf (s.slot n).cls
    let grant (limit : Nat) (reduced : Bool) : Frame :=
      startGrant ((s.slot n).addr.getD 0) n (s.slot n).trip k limit reduced s.now
    let recorded (t : State) : Prop := (t.slot n).sect = some k ∧
      (t.slot n).noTraction = decide ((s.sect k).st ≠ .energised) ∧ s.onlyChanges t [.tim, .reg, .pow, .fieldPort, .consolePort]
    (s.pool n = .free → ∃ t, exec .startRequest s = .next t ∧ recorded t ∧
      (∀ j, j ≠ n → t.slot j = s.slot j ∧ t.pool j = s.pool j) ∧ (∀ j, j ≠ k → t.sect j = s.sect j) ∧
      s.startPlaced t n k d none grant) ∧
    ∀ k' i amount expiry reduced, s.pool n = .reservation k' i amount expiry reduced →
      let freed := (s.setPool n .free).modSect k' (fun v => { v with reserved := v.reserved - amount })
      ∃ t, exec .startRequest s = .next t ∧ recorded t ∧
      (((t.slot n).st = .waitingPower ∧ t.pool n = .queued k d s.now none) ∨
       ((t.slot n).st = .permitted ∧ ∃ limit e r, t.pool n = .reservation k s.now limit e r)) ∧
      ((s.sect k').queue = [] → (∀ j, j ≠ n → t.slot j = s.slot j ∧ t.pool j = s.pool j) ∧
        (∀ j, j ≠ k → t.sect j = freed.sect j) ∧ freed.startPlaced t n k d none grant)

/-- R53 to R55: the entries of a FEEDER REPORT that match a feeder join its history in turn, which keeps the last three
readings, and set the median and the recorded breaker and clear the stale flag; M of its section becomes the sum of its feeders'
medians. Feeders and sections that no entry matches keep theirs. The median of one reading is that reading, of two the larger,
of three the middle one. -/
def Obligations.FeederReportMeasures : Prop :=
  (∀ a b c : Int, medianOf [a] = a ∧ medianOf [a, b] = max a b ∧ medianOf [a, b, c] ∈ [a, b, c] ∧
    1 < ([a, b, c].filter (fun x => decide (x ≤ medianOf [a, b, c]))).length ∧
    1 < ([a, b, c].filter (fun x => decide (medianOf [a, b, c] ≤ x))).length) ∧
  ∀ (s : State) (f : Frame) (es : List ReportEntry), s.hearsReport f es →
    let mine := s.entriesFor f.src es
    let join (h : List Int) (kw : Int) : List Int := (if h.length < 3 then h else h.drop 1) ++ [clamp (-20000) 20000 kw]
    ∃ t, exec .feederReport s = .next t ∧ t.cls = s.cls ∧ t.hnd = s.hnd ∧
    (∀ i e, (mine i).getLast? = some e → let k := (s.feeder i).sect
      (t.feeder i).history = ((mine i).map ReportEntry.kw).foldl join (s.feeder i).history ∧
      (t.feeder i).median = medianOf (t.feeder i).history ∧ (t.feeder i).stale = false ∧ (t.feeder i).breaker = e.breaker ∧
      (t.sect k).m = t.measured k ∧ (t.sect k).measLost = false) ∧
    (∀ i, mine i = [] → (t.feeder i).history = (s.feeder i).history ∧ (t.feeder i).median = (s.feeder i).median ∧
      (t.feeder i).stale = (s.feeder i).stale ∧ (t.feeder i).breaker = (s.feeder i).breaker) ∧
    ∀ k, (∀ i, mine i ≠ [] → (s.feeder i).sect ≠ k) → (t.sect k).m = (s.sect k).m ∧ (t.sect k).measLost = (s.sect k).measLost

/-- R59, R60, R84: a report whose last entry for a feeder gives its breaker OPEN takes an ENERGISED section of that feeder out
of ENERGISED: its reservations are released together, R becomes 0, and every train on it has its no-traction flag set. -/
def Obligations.TripReleasesReservations : Prop :=
  ∀ (s : State) (f : Frame) (es : List ReportEntry) (i : Nat) (e : ReportEntry), s.hearsReport f es →
    (s.entriesFor f.src es i).getLast? = some e → e.breaker = .opened →
    let k := (s.feeder i).sect
    (s.sect k).st = .energised →
    ∃ t, exec .feederReport s = .next t ∧ (t.sect k).st ≠ .energised ∧ (t.sect k).reserved = 0 ∧
    (∀ n, n < Config.slots → ∀ j a e r, t.pool n ≠ .reservation k j a e r) ∧
    (∀ n, n < Config.slots → (s.slot n).st ≠ .free → (s.slot n).sect = some k → (t.slot n).noTraction = true)

/-- R144, R147: a matching FRAME DONE sends the next frame of the play with the same tag; after the last frame a play that
has repeats left is followed by a gap of 16 eighths, and otherwise the entry is done and leaves the queue. R149: where a
candidate outranks the PLAYING entry, that entry is suspended without PA ABORT, at the frame after the one just done, or after
the last frame at frame 0 with its plays risen by 1, or is done when no play is left; and the best candidate starts (after a
done play R142 discards a stale ROUTINE entry that is SUSPENDED first: a candidate that resumes is stated where there is none,
since the suspended buffer is emptied for it, and one that begins afresh where it is not that entry itself). (A zone
has at most one PLAYING entry: R138, `State.zonesPlayOne`, which every step keeps. A gap end past the last line time is the
model's choice, log entry 37, and an instant set at that time is kept as one that no step reaches, log entry 4.) -/
def Obligations.FrameDoneSendsNextFrame : Prop :=
  ∀ (s : State) (f : Frame) (z tag idx : Nat) (o : Outstanding) (e : QEntry),
    s.hears f kFrameDone (u8 z ++ u8 tag ++ u8 idx) → z < Config.zones → tag < 256 → idx < 256 →
    (s.zone z).loaded = true → (s.zone z).addr = some f.src → (s.zone z).st = .sending →
    (s.zone z).outstanding = some o → o.idx = idx → o.tag = tag → o.queued = true →
    (s.zone z).queue.filter QEntry.isPlaying = [e] →
    ∃ t, exec .frameDone s = .next t ∧
    s.onlyChanges t [.tim, .com, .fieldPort, .consolePort] ∧ (∀ y, y ≠ z → t.zone y = s.zone y) ∧
    ((s.zone z).outranked e = false →
      (idx + 1 ≠ (s.zone z).playBuf.frames →
        (t.zone z).st = .sending ∧ (t.zone z).queue = (s.zone z).queue ∧ (t.zone z).expiryRun = 0 ∧
        ∃ o', (t.zone z).outstanding = some o' ∧ o'.idx = idx + 1 ∧ o'.tag = tag ∧
          (s.hasRoom .field .normal = true → (s.zone z).abort = none → e.cls ≠ 4 → o'.queued = true ∧
            t.fieldPort.normal = s.fieldPort.normal ++ [(s.zone z).paFrame z o'])) ∧
      (idx + 1 = (s.zone z).playBuf.frames → e.plays + 1 < e.repeats →
        (t.zone z).st = .gap ∧ (t.zone z).gapEnd = some (s.instant (s.now + 16)) ∧
        (t.zone z).outstanding = none ∧ (t.zone z).playing = some { e with plays := e.plays + 1 }) ∧
      (idx + 1 = (s.zone z).playBuf.frames → e.repeats ≤ e.plays + 1 →
        (t.zone z).queue.length < (s.zone z).queue.length)) ∧
    ∀ x, (s.zone z).outranked e = true → bestOf (s.zone z).candidates = some x → (s.compose (s.zone z) x).codes ≠ [] →
      let last : Prop := idx + 1 = (s.zone z).playBuf.frames
      s.sendsNoAbort t z ∧
      (¬ last ∨ e.plays + 1 < e.repeats → s.begins t z x ∧ (t.zone z).suspBuf = (s.zone z).playBuf ∧
        ({ e with st := EntryState.suspended, savedIdx := if last then 0 else idx + 1, suspended := s.now,
                  plays := if last then e.plays + 1 else e.plays } : QEntry) ∈ (t.zone z).queue) ∧
      (last → e.repeats ≤ e.plays + 1 → (t.zone z).queue.length < (s.zone z).queue.length ∧
        if x.st = .suspended ∧ s.now ≤ x.suspended + 480 then
          (∀ y ∈ (s.zone z).queue, y.st = .suspended → y.cls = 1 → s.now ≤ y.suspended + 960) → s.resumed t z x
        else (x.st = .suspended → x.cls = 1 → s.now ≤ x.suspended + 960) → s.begins t z x)

/-- R146: a matching PA BUSY counts on the entry and puts the zone into a gap of 32 eighths; the third one ends the entry.
(A gap end past the last line time is the model's choice, log entry 37.) -/
def Obligations.PaBusyWaitsOrFails : Prop :=
  ∀ (s : State) (f : Frame) (z tag idx : Nat) (o : Outstanding) (e : QEntry), s.hears f kPaBusy (u8 z ++ u8 tag ++ u8 idx) →
    z < Config.zones → tag < 256 → idx < 256 → (s.zone z).loaded = true → (s.zone z).addr = some f.src →
    (s.zone z).st = .sending → (s.zone z).outstanding = some o → o.idx = idx → o.tag = tag → o.queued = true → (s.zone z).playing = some e →
    ∃ t, exec .paBusy s = .next t ∧ s.onlyChanges t [.tim, .com, .fieldPort, .consolePort] ∧
    (∀ y, y ≠ z → t.zone y = s.zone y) ∧ (t.zone z).lock = (s.zone z).lock ∧
    (e.busy < 2 → (t.zone z).st = .gap ∧ (t.zone z).gapEnd = some (s.instant (s.now + 32)) ∧
      (t.zone z).playing = some { e with busy := e.busy + 1 } ∧ (t.zone z).deadline = none) ∧
    (2 ≤ e.busy → (t.zone z).st ≠ .gap ∧ (t.zone z).queue.length < (s.zone z).queue.length)

/-- R151: PA FAULT that names a zone of its sender puts it in FAULT with cause REPORTED and nothing playing, raises kind 6 at
the zone, and makes a notice FAULT due unless it stood in FAULT already; one that names none does so to every zone of its
sender. PA READY takes a zone of its sender out of FAULT, the one it names or all of them, and is ignored at one not in
FAULT. Either one that names a zone which is not its sender's is ignored. (A zone in FAULT plays nothing:
`State.faultsPlayNothing`, which every step keeps.) -/
def Obligations.PaFaultAndReady : Prop :=
  ∀ (s : State) (f : Frame), s.faultsPlayNothing →
    (∀ z, z < Config.zones → (s.zone z).loaded = true → (s.zone z).addr = some f.src → s.hears f kPaFault (u8 z) →
      ∃ t, exec .paFault s = .next t ∧ (t.zone z).st = .fault ∧ (t.zone z).cause = some .reported ∧
      (t.zone z).playing = none ∧ (t.zone z).loaded = true ∧ (t.zone z).addr = some f.src ∧
      s.raisedBy t 6 (zoneAt z) .composer ∧
      ((s.zone z).st ≠ .fault → (∃ m, (t.zone z).notice = some m ∧ m.reason = .fault .reported) ∨
        ({ reason := .fault .reported } : ZoneNotice).frame z ∈ t.consolePort.normal)) ∧
    (s.hears f kPaFault [0xFF#8] → ∃ t, exec .paFault s = .next t ∧
      ∀ z, z < Config.zones → (s.zone z).loaded = true → (s.zone z).addr = some f.src →
        (t.zone z).st = .fault ∧ (t.zone z).cause = some .reported ∧ (t.zone z).playing = none) ∧
    (∀ z, z < Config.zones → (s.zone z).loaded = true → (s.zone z).addr = some f.src → s.hears f kPaReady (u8 z) →
      ∃ t, exec .paReady s = .next t ∧ (t.zone z).loaded = true ∧ (t.zone z).addr = some f.src ∧
      ((s.zone z).st = .fault → (t.zone z).st ≠ .fault ∧ (t.zone z).cause = none ∧ s.selfCleared t 6 (zoneAt z)) ∧
      ((s.zone z).st ≠ .fault → t.com = s.com ∧ t.inc = s.inc)) ∧
    (∀ z, z < 255 → z ∉ s.zonesOf f.src →
      (s.hears f kPaFault (u8 z) → ∃ t, exec .paFault s = .next t ∧ t.com = s.com ∧ t.inc = s.inc) ∧
      (s.hears f kPaReady (u8 z) → ∃ t, exec .paReady s = .next t ∧ t.com = s.com ∧ t.inc = s.inc)) ∧
    (s.hears f kPaReady [0xFF#8] → ∃ t, exec .paReady s = .next t ∧
      ∀ z, z < Config.zones → (s.zone z).loaded = true → (s.zone z).addr = some f.src → (s.zone z).st = .fault →
        (t.zone z).st ≠ .fault ∧ (t.zone z).cause = none ∧ s.selfCleared t 6 (zoneAt z))

/-- R173, R93 to R95: a HELP CALL raises kind 5 at the sender's station in the lowest free entry, or adds an occurrence to
the one that is ACTIVE there. R94: in a full table the new incident takes the entry at the front of the cleared list, which is
freed first; with an empty cleared list the raise is dropped and the incident-overflow counter rises by 1. (An acknowledgement
deadline set at the last line time is kept as one that no step reaches: log entry 4.) -/
def Obligations.HelpCallRaisesKind5 : Prop :=
  ∀ (s : State) (f : Frame) (payload : List Byte), s.hears f kHelpCall payload →
    let loc : Location := { typ := .station, idx := (s.unit f.src).index }
    let made (t : State) (i : Nat) : Prop := ∃ v, t.incident i = some v ∧ v.kind = 5 ∧ v.loc = loc ∧
      v.st = .activeUnack ∧ v.raiser = .classifier ∧ v.severity = (s.kind 5).severity ∧ v.raised = s.now ∧
      v.occurrences = 1 ∧ v.ackBy = none ∧ v.deadline = some (s.instant (s.now + 8 * (s.kind 5).ackLimit)) ∧
      (∀ j, j ≠ i → t.incident j = s.incident j)
    (∀ i, s.openIncident 5 loc = none → s.freeIncident = some i → ∃ t, exec .helpCall s = .next t ∧ made t i ∧
      t.inc.cleared = s.inc.cleared ∧ t.inc.overflow = s.inc.overflow) ∧
    (∀ i rest w, s.openIncident 5 loc = none → s.freeIncident = none → s.inc.cleared = i :: rest → s.incident i = some w →
      ∃ t, exec .helpCall s = .next t ∧ made t i ∧ t.inc.cleared = rest.filter (fun j => decide (j ≠ i)) ∧
      t.inc.overflow = s.inc.overflow) ∧
    (s.openIncident 5 loc = none → s.freeIncident = none → s.inc.cleared = [] → ∃ t, exec .helpCall s = .next t ∧
      t.inc = { s.inc with overflow := min (s.inc.overflow + 1) 65535 } ∧
      s.onlyChanges t [.tim, .inc, .fieldPort, .consolePort]) ∧
    (∀ i v, s.openIncident 5 loc = some i → s.incident i = some v → ∃ t w, exec .helpCall s = .next t ∧
      t.incident i = some w ∧ w.number = v.number ∧ w.occurrences = min (v.occurrences + 1) 255 ∧
      w.st = .activeUnack ∧ w.severity = max v.severity (s.kind 5).severity ∧ w.effects = v.effects ∧
      (∀ j, j ≠ i → t.incident j = s.incident j) ∧ s.onlyChanges t [.tim, .inc, .fieldPort, .consolePort])

/-! ## Instants -/

/-- R34 to R36, R38, R78 to R80: the release instant of a HELD slot puts it into INCIDENT HOLD at a held platform, with no
telegram; elsewhere it makes the start request on the departure section: on an open section with an empty queue the full test
grants the demand and the reduced test what the cap leaves, DEPART PERMIT goes to the train with that limit, and the call's
record takes the power wait and the reduced flag; otherwise the slot waits at the tail of the queue. (A reservation's expiry set
at the last line time is kept as one that no step reaches: log entry 4.) -/
def Obligations.ReleaseInstantStarts : Prop :=
  ∀ (s : State) (n p rel : Nat), n < Config.slots → s.running = true → (s.slot n).st = .held →
    (s.slot n).platform = some p → (s.slot n).release = some rel → rel ≤ s.now →
    let k := (s.plat p).sect
    let v := s.sect k
    let d := s.demandOf (s.slot n).cls
    ∃ t, exec (.releaseInstant n) s = .next t ∧ (t.slot n).release = none ∧ (t.slot n).relBase = some rel ∧
    (t.slot n).platform = some p ∧ s.onlyChanges t [.reg, .pow, .fieldPort] ∧
    (s.platHeld p = true → (t.slot n).st = .incidentHold ∧ s.onlyChanges t [.reg] ∧ (∀ j, j ≠ n → t.slot j = s.slot j) ∧
      ∀ i r, s.servedCall n p = some (i, r) →
        (t.plat p).ring = (s.plat p).ring.set i { r with flags := { r.flags with incidentHeld := true } }) ∧
    (s.platHeld p = false → s.pool n = .free →
      (∀ j, j ≠ n → t.slot j = s.slot j ∧ t.pool j = s.pool j) ∧ (∀ j, j ≠ k → t.sect j = s.sect j) ∧
      s.startPlaced t n k d (some rel) (fun limit reduced =>
        departPermit ((s.slot n).addr.getD 0) n (s.slot n).trip (s.plat p).display k limit reduced s.now) ∧
      ∀ i r, s.servedCall n p = some (i, r) → v.ready →
        (v.fits d → (t.plat p).ring = (s.plat p).ring.set i { r with wait := s.now - rel }) ∧
        (v.fitsReduced d → (t.plat p).ring =
          (s.plat p).ring.set i { r with wait := s.now - rel, flags := { r.flags with reducedStart := true } }))

/-- R83: an expired reservation is freed and lowers R of its section; with nothing queued there, nothing else changes. -/
def Obligations.ReservationExpiryFrees : Prop :=
  ∀ (s : State) (n k instant amount expiry : Nat) (reduced : Bool), n < Config.slots → s.running = true →
    s.pool n = .reservation k instant amount expiry reduced → expiry ≤ s.now →
    ∃ t, exec (.reservationExpiry n) s = .next t ∧ t.pool n = .free ∧ s.onlyChanges t [.reg, .pow, .fieldPort] ∧
    (∀ j, j ≠ k → t.sect j = s.sect j) ∧
    ((s.sect k).queue = [] → s.onlyChanges t [.pow] ∧ (∀ m, m ≠ n → t.pool m = s.pool m) ∧
      t.sect k = { s.sect k with reserved := (s.sect k).reserved - amount } ∧
      t.pow = { s.pow with pool := t.pow.pool, sections := t.pow.sections })

/-- R62, R64: a switching deadline counts one more attempt and orders again, with the new attempt count, every feeder of the
section whose breaker is not recorded in the wanted state, OPEN while ISOLATING and CLOSED while ENERGISING; at the third
attempt the section goes to FAULT and kind 8 is raised there. (An effect of kind 8 may at once isolate the section again, so
FAULT is stated for a kind without effect templates. That R64's new deadline has R62's limit is the model's choice, log entry
37; a deadline set at the last line time is kept as one that no step reaches, log entry 4.) -/
def Obligations.SwitchingDeadlineRepeatsOrFails : Prop :=
  ∀ (s : State) (k d : Nat), k < Config.sections → s.running = true → (s.sect k).st.switching = true →
    (s.sect k).deadline = some d → d ≤ s.now → ∃ t, exec (.switchingDeadline k) s = .next t ∧
    ((s.sect k).attempts < 3 →
      t.sect k = { s.sect k with attempts := (s.sect k).attempts + 1, deadline := some (s.instant (s.now + 80)) } ∧
      (∀ j, j ≠ k → t.sect j = s.sect j) ∧ t.pow.pool = s.pow.pool ∧ s.onlyChanges t [.pow, .fieldPort] ∧
      ((s.sect k).st = .isolating →
        s.ordersSent t k .isolate ((s.sect k).attempts + 1) (fun i => (s.feeder i).breaker ≠ .opened) ∧
        ∀ j, j ∉ s.feedersOf k ∨ (s.feeder j).breaker = .opened → t.feeder j = s.feeder j) ∧
      ((s.sect k).st = .energising →
        s.ordersSent t k .energise ((s.sect k).attempts + 1) (fun i => (s.feeder i).breaker ≠ .closed) ∧
        ∀ j, j ∉ s.feedersOf k ∨ (s.feeder j).breaker = .closed → t.feeder j = s.feeder j)) ∧
    (3 ≤ (s.sect k).attempts →
      s.raisedBy t 8 (sectionAt k) .powerUnit ∧
      (s.law12 → (s.kind 8).templates = [] →
        (t.sect k).st = .fault ∧ (t.sect k).attempts = 0 ∧ (t.sect k).deadline = none))

/-- R102: an ACTIVE-UNACK incident whose acknowledgement deadline is reached rises one severity, to at most 4, its deadline
is renewed, and an INCIDENT NOTICE with reason ESCALATED is queued or stands in its notice slot; no other entry, no effect
and no effective value changes. -/
def Obligations.AcknowledgementDeadlineEscalates : Prop :=
  ∀ (s : State) (i d : Nat) (v : Incident), i < Config.entries → s.running = true → s.incident i = some v →
    v.st = .activeUnack → v.deadline = some d → d ≤ s.now → ∃ t, exec (.acknowledgementDeadline i) s = .next t ∧
    t.incident i = some { v with severity := min (v.severity + 1) 4,
                                 deadline := if s.now = Config.maxTime then none
                                             else some (min (s.now + 8 * (s.kind v.kind).ackLimit) Config.maxTime) } ∧
    (let n : IncNotice := { number := v.number, kind := v.kind, loc := v.loc, severity := min (v.severity + 1) 4,
                            st := some .activeUnack, occurrences := v.occurrences, ackBy := v.ackBy, reason := .escalated }
     (s.incNotice i = none ∧ t.incNotice i = none ∧
        t.consolePort.queue n.lane = s.consolePort.queue n.lane ++ [n.frame]) ∨
      ∃ m, t.incNotice i = some m ∧ m.number = n.number ∧ m.severity = n.severity ∧ m.st = n.st ∧
        m.occurrences = n.occurrences ∧ m.reason = n.reason) ∧
    (∀ j, j ≠ i → t.incident j = s.incident j) ∧ t.inc.kinds = s.inc.kinds ∧ t.inc.cleared = s.inc.cleared ∧
    t.inc.interlock = s.inc.interlock ∧ t.inc.fraction = s.inc.fraction ∧ t.inc.held = s.inc.held ∧
    t.inc.headway = s.inc.headway ∧ s.onlyChanges t [.inc, .consolePort]

/-- R145, R147: a frame deadline sends the same frame again, and at the third expiry in a row puts the zone in FAULT with
cause NO ANSWER; the end of a gap returns the zone to SENDING with the frame it held, or frame 0 of the next play. (A frame
deadline set at the last line time is kept as one that no step reaches: log entry 4.) -/
def Obligations.FrameDeadlineAndGapEnd : Prop :=
  ∀ (s : State) (z : Nat), z < Config.zones → s.running = true →
    (∀ d o, (s.zone z).st = .sending → (s.zone z).deadline = some d → d ≤ s.now → (s.zone z).outstanding = some o →
      ∃ t, exec (.frameDeadline z) s = .next t ∧
      ((s.zone z).expiryRun < 2 → (t.zone z).st = .sending ∧ (t.zone z).expiryRun = (s.zone z).expiryRun + 1 ∧
        (t.zone z).queue = (s.zone z).queue ∧ (t.zone z).playBuf = (s.zone z).playBuf ∧
        (∃ o', (t.zone z).outstanding = some o' ∧ o'.idx = o.idx ∧ o'.tag = o.tag ∧
          (s.hasRoom .field .normal = true → (s.zone z).abort = none → (s.zone z).urgentFrame = false →
            o'.queued = true ∧ t.fieldPort.normal = s.fieldPort.normal ++ [(s.zone z).paFrame z o] ∧
            (t.zone z).deadline =
              some (s.instant (s.now + (32 + 8 * ((s.zone z).playBuf.frameCodes o.idx).length))))) ∧
        (∀ y, y ≠ z → t.zone y = s.zone y) ∧ s.onlyChanges t [.com, .fieldPort]) ∧
      (2 ≤ (s.zone z).expiryRun → (t.zone z).st = .fault ∧ (t.zone z).cause = some .noAnswer ∧
        (t.zone z).playing = none)) ∧
    (∀ g e, (s.zone z).st = .gap → (s.zone z).gapEnd = some g → g ≤ s.now → (s.zone z).playing = some e →
      ∃ t o, exec (.gapEnd z) s = .next t ∧ (t.zone z).st = .sending ∧ (t.zone z).outstanding = some o ∧
      (t.zone z).queue = (s.zone z).queue ∧ (∀ y, y ≠ z → t.zone y = s.zone y) ∧ s.onlyChanges t [.com, .fieldPort] ∧
      match (s.zone z).outstanding with
      | some o₀ => o.idx = o₀.idx ∧ o.tag = o₀.tag ∧ (t.zone z).expiryRun = (s.zone z).expiryRun
      | none => o.idx = 0 ∧ o.tag = e.entryTag ∧ (t.zone z).expiryRun = 0)

/-- R163, R14, R56, R151: the silence of a train makes its slot LOST with nothing in the pool and raises kind 1; that of a
substation makes exactly its feeders stale and raises kind 7; that of a PA unit puts its zones in FAULT with cause SILENCE and
nothing playing, and raises kind 6 at its only zone. (A zone in FAULT plays nothing: `State.faultsPlayNothing`, which every
step keeps.) -/
def Obligations.SilenceExpiryHandsOver : Prop :=
  ∀ (s : State) (a : Nat), s.faultsPlayNothing → a < 4096 → s.expired a = true →
    ∃ t, exec (.silenceExpiry a) s = .next t ∧ t.now = s.now ∧
    (∀ n, s.trainOf a = some n → (t.slot n).st = .lost ∧ (t.slot n).release = none ∧ (t.slot n).stay = none ∧
      (t.slot n).advice = none ∧ (t.slot n).permit = none ∧ (t.slot n).consolePermit = false ∧
      (t.slot n).platform = (s.slot n).platform ∧ (t.slot n).trip = (s.slot n).trip ∧ t.pool n = .free ∧
      s.raisedBy t 1 (trainAt n) .regulator) ∧
    ((s.unit a).role = .substation → (t.supervision a).silent = true ∧
      s.raisedBy t 7 (substationAt (s.unit a).index) .timingUnit ∧
      (∀ i, i < Config.feeders → (s.feeder i).loaded = true → (s.feeder i).substation = (s.unit a).index →
        t.feeder i = { s.feeder i with stale := true, waiting := (t.feeder i).waiting }) ∧
      ∀ i, (s.feeder i).loaded = false ∨ (s.feeder i).substation ≠ (s.unit a).index →
        t.feeder i = { s.feeder i with waiting := (t.feeder i).waiting }) ∧
    ((s.unit a).role = .paUnit → (t.supervision a).silent = true ∧
      (∀ z, z < Config.zones → (s.zone z).loaded = true → (s.zone z).addr = some a →
        (t.zone z).st = .fault ∧ (t.zone z).cause = some .silence ∧ (t.zone z).playing = none) ∧
      ∀ z, s.zonesOf a = [z] → s.raisedBy t 6 (zoneAt z) .timingUnit)

/-- R47, R49: a pending cell whose interval has passed is sent, or waits for room; three waiting outcomes, or one that has
waited 16 eighths, make a CALL OUTCOMES telegram of the oldest one to three. -/
def Obligations.CellsAndOutcomesAreSent : Prop :=
  (∀ (s : State) (p : Nat), p < Config.platforms → s.running = true → (s.plat p).loaded = true →
    (s.plat p).cellPending = true → (s.plat p).displayAddr ≠ 0 → (s.plat p).lastSend + 16 ≤ s.now →
    ∃ t, exec (.displayUpdate p) s = .next t ∧ s.onlyChanges t [.reg, .fieldPort] ∧ (∀ q, q ≠ p → t.plat q = s.plat q) ∧
      t.reg.trains = s.reg.trains ∧ t.reg.outcomes = s.reg.outcomes ∧
      (s.hasRoom .field .normal = true →
        t.plat p = { s.plat p with cellSent := (s.plat p).cellNow, lastSend := s.now, cellPending := false, cellSince := none } ∧
        t.fieldPort.normal = s.fieldPort.normal ++
          [displayUpdate (s.plat p).displayAddr (s.plat p).display (s.plat p).cellNow]) ∧
      (s.hasRoom .field .normal = false →
        t.plat p = { s.plat p with cellSince := (t.plat p).cellSince } ∧ (t.plat p).cellSince ≠ none ∧
        t.fieldPort.normal = s.fieldPort.normal ∧ .regulator ∈ t.fieldPort.normalRoom)) ∧
  (∀ (s : State), s.running = true → s.hasRoom .console .normal = true →
    (3 ≤ s.reg.outcomes.length ∨ ∃ o, s.reg.outcomes.head? = some o ∧ o.entered + 16 ≤ s.now) →
    ∃ t, exec .callOutcomes s = .next t ∧ t.reg = { s.reg with outcomes := s.reg.outcomes.drop 3 } ∧
      t.consolePort.normal = s.consolePort.normal ++ [callOutcomes (s.reg.outcomes.take 3)] ∧
      t.consolePort.urgent = s.consolePort.urgent ∧ s.onlyChanges t [.reg, .consolePort])

/-! ## Console frames -/

/-- R175, R190: a console frame of an unknown source is dropped and counted; a request of an unknown kind gets BAD ARGUMENT
and changes nothing. -/
def Obligations.UnknownSourceAndKind : Prop :=
  ∀ (s : State) (f : Frame), s.front .console = some f →
    (s.sender f.src = none → ∃ t, exec .consoleFrame s = .next t ∧ s.onlyChanges t [.cls, .consolePort] ∧
      t.consolePort.fifo = s.consolePort.fifo.drop 1 ∧ t.consolePort.urgent = s.consolePort.urgent ∧
      t.consolePort.normal = s.consolePort.normal ∧
      t.cls = { s.cls with unknownSource := min (s.cls.unknownSource + 1) 65535 }) ∧
    (∀ c, s.sender f.src = some c → f.dst = Config.self →
      (f.kind < 0xC0 ∨ f.kind = 0xC5 ∨ 0xDE < f.kind) → ∃ t, exec .unknownRequest s = .next t ∧
      s.refusedWith t c f.kind .badArgument)

/-- R176, R180: a pass-through telegram to a known unit, of a kind that is neither the part's own nor a request, from a
console with the kind's privilege goes unchanged to the field port; the first check that fails refuses it. -/
def Obligations.PassThroughForwards : Prop :=
  ∀ (s : State) (f : Frame) (c : Sender), s.passes f c →
    f.kind ≠ kDepartPermit → f.kind ≠ kEnergiseOrder → f.kind ≠ kPaFrame → f.kind ≠ kPaAbort →
    let needed : Priv := if f.kind = kIsolateOrder then .power else .dispatch
    let barred : Prop := (0x80 ≤ f.kind ∧ f.kind ≤ 0x85) ∨ (0xC0 ≤ f.kind ∧ f.kind ≤ 0xDE)
    ∃ t, exec .passThrough s = .next t ∧
    ((s.unit f.dst).role = .unused → s.turnedAway t f c .notFound) ∧
    ((s.unit f.dst).role ≠ .unused → barred → s.turnedAway t f c .badArgument) ∧
    ((s.unit f.dst).role ≠ .unused → ¬barred → c.privs.has needed = false → s.turnedAway t f c .notPermitted) ∧
    ((s.unit f.dst).role ≠ .unused → ¬barred → c.privs.has needed = true →
      s.passed t f ∧ s.onlyChanges t [.fieldPort, .consolePort])

/-- R180, R176: every pass-through telegram of a listed console is either passed, without a REPLY, or refused with one REPLY
that carries its kind, one of five reasons, and its destination; a refusal changes nothing else, and a pass nothing but the
console-permit flag of a slot. -/
def Obligations.PassThroughPassesOrIsRefused : Prop :=
  ∀ (s : State) (f : Frame) (c : Sender), s.passes f c →
    let i : Instr := if f.kind = kDepartPermit then .consoleDepartPermit else if f.kind = kEnergiseOrder then .consoleEnergiseOrder
      else if f.kind = kPaFrame then .consolePaFrame else if f.kind = kPaAbort then .consolePaAbort else .passThrough
    ∃ t, exec i s = .next t ∧
      ((s.passed t f ∧ s.onlyChanges t [.reg, .fieldPort, .consolePort] ∧ t.reg = { s.reg with trains := t.reg.trains } ∧
        ∀ n, t.slot n = s.slot n ∨ (s.trainOf f.dst = some n ∧ t.slot n = { s.slot n with consolePermit := true })) ∨
       ∃ r, (r = .notFound ∨ r = .badArgument ∨ r = .notPermitted ∨ r = .interlocked ∨ r = .busy) ∧ s.turnedAway t f c r)

/-- R178, R177: a console DEPART PERMIT passes and marks the slot, but is INTERLOCKED at a held platform without SUPERVISOR;
a console ENERGISE ORDER passes unless the section of its feeder or the section it names is interlocked. -/
def Obligations.PermitAndEnergiseChecks : Prop :=
  ∀ (s : State) (f : Frame) (c : Sender), s.passes f c →
    (∀ n, f.kind = kDepartPermit → s.trainOf f.dst = some n → c.privs.has .dispatch = true →
      ∃ t, exec .consoleDepartPermit s = .next t ∧
      (if (∃ p, (s.slot n).platform = some p ∧ s.platHeld p = true) ∧ c.privs.supervisor = false
       then s.turnedAway t f c .interlocked
       else s.passed t f ∧ s.onlyChanges t [.reg, .fieldPort, .consolePort] ∧ t.reg = { s.reg with trains := t.reg.trains } ∧
        (∀ j, j ≠ n → t.slot j = s.slot j) ∧
        t.slot n = (if (s.slot n).atAnyPlatform = true then { s.slot n with consolePermit := true } else s.slot n))) ∧
    (∀ sub num sec : Byte, ∀ rest, f.kind = kEnergiseOrder → f.payload = sub :: num :: sec :: rest →
      (s.unit f.dst).role = .substation → sub.toNat = (s.unit f.dst).index → num.toNat ≤ 7 →
      sec.toNat < Config.sections → c.privs.has .power = true → ∃ t, exec .consoleEnergiseOrder s = .next t ∧
      (if s.interlocked sec.toNat = true ∨
          (∃ i, s.feederAt sub.toNat num.toNat = some i ∧ s.interlocked (s.feeder i).sect = true)
       then s.turnedAway t f c .interlocked
       else s.passed t f ∧ s.onlyChanges t [.fieldPort, .consolePort]))

/-- R154, R179: a console PA FRAME or PA ABORT for a zone of its destination passes when the console holds the zone's lock and
nothing plays or stands suspended there; without a lock it is NOT PERMITTED, under another's lock or during a play BUSY. -/
def Obligations.ConsolePaNeedsTheLock : Prop :=
  ∀ (s : State) (f : Frame) (c : Sender) (z : Byte) (rest : List Byte) (i : Instr), s.passes f c →
    (i = .consolePaFrame ∧ f.kind = kPaFrame ∨ i = .consolePaAbort ∧ f.kind = kPaAbort) →
    f.payload = z :: rest → (s.unit f.dst).role ≠ .unused → z.toNat < Config.zones →
    (s.zone z.toNat).loaded = true → (s.zone z.toNat).addr = some f.dst → ∃ t, exec i s = .next t ∧
    match (s.zone z.toNat).lock with
    | .unlocked => s.turnedAway t f c .notPermitted
    | .incident _ => s.turnedAway t f c .busy
    | .console e =>
      if e ≠ c.entry ∨ (∃ x ∈ (s.zone z.toNat).queue, x.st = .playing ∨ x.st = .suspended)
      then s.turnedAway t f c .busy
      else s.passed t f ∧ s.onlyChanges t [.fieldPort, .consolePort]

/-! ## Requests -/

/-- R190 to R193: a request from a console without the kind's privilege, or in an operating state that does not allow it, is
answered by one REPLY with an empty result and changes nothing else; this holds for every request of Table 11-2. The reason is
that of the first check that fails: BAD ARGUMENT for a malformed payload, then NOT PERMITTED, then WRONG STATE. -/
def Obligations.RefusedRequestsChangeNothing : Prop :=
  ∀ (i : Instr) (kind : Nat) (priv : Option Priv) (adm : Admitted), (i, kind, priv, adm) ∈ requestTable →
    ∀ (s : State) (c : Sender) (payload : List Byte), s.asks kind c payload →
      (c.holds priv = false ∨ adm.here s.hnd.op = false) → ∃ t, exec i s = .next t ∧ s.refusedWith t c kind
        (if requestParses kind payload = false then .badArgument
         else if c.holds priv = false then .notPermitted else .wrongState)

/-- R196, Table 12-5: STATUS answers with 36 bytes and clears the fifteen counters; but for those counters and the REPLY
nothing changes. -/
def Obligations.StatusReportsAndClears : Prop :=
  ∀ (s : State) (c : Sender), s.asks 0xC0 c [] → c.privs.has .view = true → ∃ t, exec .status s = .next t ∧
    t.tim = s.tim ∧ t.pow = s.pow ∧ t.hnd.op = s.hnd.op ∧ t.pending = s.pending ∧ t.resetHeld = s.resetHeld ∧
    t.event = s.event + 1 ∧
    t.cls = { s.cls with unknownSource := 0, roleMismatch := 0 } ∧ t.inc = { s.inc with overflow := 0 } ∧
    t.reg = { s.reg with outcomeLoss := 0 } ∧ t.com = { s.com with zoneDrops := 0 } ∧
    let zeroed : PortState → PortState := fun v => { v with
      crcErrors := 0, framingErrors := 0, inboundOverflows := 0, outboundDiscards := 0, linkDownEvents := 0 }
    let s₀ : State := { s with fieldPort := zeroed s.fieldPort, consolePort := zeroed s.consolePort }
    let fp := s.fieldPort
    let cp := s.consolePort
    let result := u8 (if s.hnd.op = .running then 1 else 0) ++
      u8 (s.tim.clockSet.toNat + 2 * fp.linkDown.toNat + 4 * cp.linkDown.toNat) ++ u24 s.now ++ i8 s.tim.slew ++
      [fp.crcErrors, fp.framingErrors, fp.inboundOverflows, fp.outboundDiscards, fp.linkDownEvents,
       cp.crcErrors, cp.framingErrors, cp.inboundOverflows, cp.outboundDiscards, cp.linkDownEvents,
       s.cls.unknownSource, s.cls.roleMismatch, s.inc.overflow, s.reg.outcomeLoss, s.com.zoneDrops].flatMap u16
    result.length = 36 ∧ s₀.portKept t .field ∧ s₀.replied t (c.reply 0xC0 .accepted result)

/-- R197: QUERY answers with one 48-byte part of the record that it names, and changes nothing; the parts of a record, in
order, make the record. -/
def Obligations.QueryReturnsOnePart : Prop :=
  (∀ (s : State) (c : Sender) (typ h l n : Byte), s.asks 0xDE c [typ, h, l, n] → c.privs.has .view = true →
    ∃ t, exec .query s = .next t ∧ t.hnd.op = s.hnd.op ∧ s.onlyChanges t [.hnd, .consolePort] ∧
    match s.record typ.toNat (256 * h.toNat + l.toNat) with
    | .error r => s.replied t (c.reply 0xDE r []) ∧ (r = .badArgument ∨ r = .notFound)
    | .ok bytes =>
      if n.toNat < (bytes.length + 47) / 48 then
        s.replied t (c.reply 0xDE .accepted
          (u8 ((bytes.length + 47) / 48) ++ u8 n.toNat ++ (bytes.drop (48 * n.toNat)).take 48))
      else s.replied t (c.reply 0xDE .badArgument (u8 ((bytes.length + 47) / 48)))) ∧
  ∀ bytes : List Byte, (List.range (parts bytes)).flatMap (part bytes) = bytes

/-- R198, R165: START OPERATION, with SUPERVISOR and the clock set, moves the part to RUNNING at the same line time and
starts every supervised unit's silence timer afresh; before the clock is set it gets WRONG STATE. R158: an acknowledgement
deadline that was set at the last line time, kept as one that no step reaches (log entry 4), is one of the instants that START
OPERATION lets be reached; nothing else of the incidents changes. -/
def Obligations.StartOperationRuns : Prop :=
  ∀ (s : State) (c : Sender), s.asks 0xC1 c [] → c.privs.supervisor = true → s.hnd.op = .configuring →
    (s.tim.clockSet = true → ∃ t, exec .startOperation s = .next t ∧ t.hnd.op = .running ∧
      s.onlyChanges t [.hnd, .tim, .reg, .inc, .com, .fieldPort, .consolePort] ∧
      t.tim = { s.tim with supervision := t.tim.supervision } ∧ (∀ a, s.silenceLimit a ≠ none → t.lastHeard a = s.now) ∧
      (∀ p, (t.plat p).ring = (s.plat p).ring) ∧ t.inc = { s.inc with entries := t.inc.entries } ∧
      (∀ i, i < Config.entries → t.incident i = (s.incident i).map (fun v =>
        if v.deadline = some Config.unreached then { v with deadline := some Config.maxTime } else v)) ∧
      t.repliedLast (c.reply 0xC1 .accepted (u24 s.now))) ∧
    (s.tim.clockSet = false → ∃ t, exec .startOperation s = .next t ∧ s.refusedWith t c 0xC1 .wrongState)

/-- R199, R16, R73, R87, R157, R165: STOP OPERATION returns the part to CONFIGURING: bound trains are UNPLACED, the start pool
is empty, loaded sections are UNKNOWN, loaded zones are idle, empty and unlocked, no call is ACTIVE, the slew is over; the
incidents, the unit map and the console table are kept. -/
def Obligations.StopOperationTearsDown : Prop :=
  ∀ (s : State) (c : Sender), s.asks 0xC2 c [] → c.privs.supervisor = true → s.hnd.op = .running →
    ∃ t, exec .stopOperation s = .next t ∧ t.hnd.op = .configuring ∧
    s.onlyChanges t [.hnd, .tim, .reg, .pow, .com, .fieldPort, .consolePort] ∧
    t.tim = { s.tim with slew := 0, phase := 0, correctionDue := false, withhold := false, waiting := false,
                         displayDue := false, publishDue := false } ∧
    (∀ n, n < Config.slots → t.slot n = (if (s.slot n).st = .free then s.slot n else
      { addr := (s.slot n).addr, trip := (s.slot n).trip, cls := (s.slot n).cls, st := .unplaced,
        lateness := (s.slot n).lateness, lastHeard := (s.slot n).lastHeard })) ∧
    (∀ n, t.pool n = .free) ∧
    (∀ k, k < Config.sections → (t.sect k).queue = [] ∧ (t.sect k).reserved = 0 ∧
      ((s.sect k).loaded = true → (t.sect k).st = .unknown ∧ (t.sect k).deadline = none)) ∧
    (∀ p, p < Config.platforms → (t.plat p).active = none ∧ ∀ r ∈ (t.plat p).ring, r.disp ≠ .active) ∧
    (∀ z, z < Config.zones → (s.zone z).loaded = true → (t.zone z).st = .idle ∧ (t.zone z).queue = [] ∧
      (t.zone z).lock = .unlocked ∧ (t.zone z).outstanding = none ∧ (t.zone z).deadline = none ∧ (t.zone z).gapEnd = none) ∧
    t.repliedLast (c.reply 0xC2 .accepted (u24 s.now))

/-- R169, R167, R123, R124, R195, R90: an accepted load of the console table, the unit map, a station, a template, the classes
or a kind replaces exactly what it names. LOAD CONSOLE with the absent address empties its position, as long as another console
holds SUPERVISOR. R162, R164: LOAD UNIT that changes the role or index of a silent address ends the silence under the old ones
first: a substation's kind 7 is self-cleared, and a PA unit's zones in FAULT leave it where the cause is SILENCE and nowhere
else; any other LOAD UNIT leaves the silent flag as it stands. -/
def Obligations.LoadsReplaceTheirEntry : Prop :=
  ∀ (s : State) (c : Sender), c.privs.supervisor = true →
    (∀ (e a p : Nat), s.asks 0xC6 c (u8 e ++ u16 a ++ u8 p) → s.hnd.op = .configuring → e < Config.consoles → 1 ≤ a →
      a ≤ 4093 → 1 ≤ p → p ≤ 15 → (∀ j x, j < Config.consoles → j ≠ e → s.console j = some x → x.addr ≠ a) →
      (s.unit a).role = .unused →
      (8 ≤ p ∨ ∃ j x, j < Config.consoles ∧ j ≠ e ∧ s.console j = some x ∧ x.privs.supervisor = true) →
      ∃ t, exec .loadConsole s = .next t ∧ s.onlyChanges t [.cls, .hnd, .consolePort] ∧ t.hnd.op = .configuring ∧
      t.console e = some { addr := a, privs := ⟨p % 2 = 1, p / 2 % 2 = 1, p / 4 % 2 = 1, p / 8 % 2 = 1⟩ } ∧
      (∀ j, j ≠ e → t.console j = s.console j) ∧ t.cls = { s.cls with consoles := t.cls.consoles } ∧
      s.replied t (c.reply 0xC6 .accepted [])) ∧
    (∀ e : Nat, s.asks 0xC6 c (u8 e ++ u16 65535) → s.hnd.op = .configuring → e < Config.consoles →
      (∃ j x, j < Config.consoles ∧ j ≠ e ∧ s.console j = some x ∧ x.privs.supervisor = true) →
      ∃ t, exec .loadConsole s = .next t ∧ s.onlyChanges t [.cls, .hnd, .consolePort] ∧ t.hnd.op = .configuring ∧
      t.console e = none ∧ (∀ j, j ≠ e → t.console j = s.console j) ∧ t.cls = { s.cls with consoles := t.cls.consoles } ∧
      s.replied t (c.reply 0xC6 .accepted [])) ∧
    (∀ payload l u, s.asks 0xC7 c payload → s.hnd.op = .configuring → parseUnit payload = some l → l.entry = some u →
      (s.unit l.addr).role ≠ .train → (u.role = .unused ∨ s.anyConsole l.addr = false) →
      let old := s.unit l.addr
      ∃ t, exec .loadUnit s = .next t ∧ t.hnd.op = .configuring ∧ t.unit l.addr = u ∧
      (∀ a, a ≠ l.addr → t.unit a = s.unit a) ∧ t.cls = { s.cls with units := t.cls.units } ∧
      ((s.supervision l.addr).silent = false ∨ (old.role = u.role ∧ old.index = u.index) →
        s.onlyChanges t [.cls, .hnd, .consolePort] ∧ s.replied t (c.reply 0xC7 .accepted [])) ∧
      ((s.supervision l.addr).silent = true → old.role ≠ u.role ∨ old.index ≠ u.index →
        t.supervision l.addr = { s.supervision l.addr with silent := false } ∧
        (∀ a, a ≠ l.addr → t.supervision a = s.supervision a) ∧ t.repliedLast (c.reply 0xC7 .accepted []) ∧
        (old.role ≠ .substation → old.role ≠ .paUnit → s.onlyChanges t [.cls, .tim, .hnd, .consolePort]) ∧
        (old.role = .substation → s.selfCleared t 7 (substationAt old.index)) ∧
        (old.role = .paUnit → ∀ z, z < Config.zones → (s.zone z).loaded = true → (s.zone z).addr = some l.addr →
          (s.zone z).st = .fault →
          if (s.zone z).cause = some .silence then
            (t.zone z).st ≠ .fault ∧ (t.zone z).cause = none ∧ s.selfCleared t 6 (zoneAt z)
          else (t.zone z).st = .fault ∧ (t.zone z).cause = (s.zone z).cause))) ∧
    (∀ (n code : Nat), s.asks 0xC8 c (u8 n ++ u16 code) → s.hnd.op = .configuring → n < Config.stations → 1 ≤ code →
      code ≤ 3999 → ∃ t, exec .loadStation s = .next t ∧ s.onlyChanges t [.com, .hnd, .consolePort] ∧
      t.hnd.op = .configuring ∧ t.station n = some code ∧ (∀ m, m ≠ n → t.station m = s.station m) ∧
      t.com = { s.com with stations := t.com.stations } ∧ s.replied t (c.reply 0xC8 .accepted [])) ∧
    (∀ payload n es, s.asks 0xCE c payload → parseTemplate payload = some (n, es.map some) → n < Config.templates →
      1 ≤ es.length → es.length ≤ 24 → ∃ t, exec .loadTemplate s = .next t ∧
      s.onlyChanges t [.com, .hnd, .consolePort] ∧ t.hnd.op = s.hnd.op ∧ t.template n = some es ∧
      (∀ m, m ≠ n → t.template m = s.template m) ∧ t.com = { s.com with templates := t.com.templates } ∧
      s.replied t (c.reply 0xCE .accepted [])) ∧
    (∀ payload l, s.asks 0xCC c payload → parseClasses payload = some l → l.ok = true →
      ∃ t, exec .loadClasses s = .next t ∧ s.onlyChanges t [.pow, .tim, .hnd, .consolePort] ∧ t.hnd.op = s.hnd.op ∧
      t.pow = { s.pow with demand0 := l.demands.1, demand1 := l.demands.2.1, demand2 := l.demands.2.2.1,
                           demand3 := l.demands.2.2.2 } ∧
      t.tim = { s.tim with silence0 := l.silences.1, silence1 := l.silences.2.1, silence2 := l.silences.2.2.1,
                           silence3 := l.silences.2.2.2, interval := l.interval } ∧
      s.replied t (c.reply 0xCC .accepted [])) ∧
    (∀ payload l k, s.asks 0xCD c payload → parseKind payload = some l → l.entry (s.kind l.kind) = some k →
      ∃ t, exec .loadKind s = .next t ∧ s.onlyChanges t [.inc, .hnd, .consolePort] ∧ t.hnd.op = s.hnd.op ∧
      t.kind l.kind = k ∧ (∀ j, j ≠ l.kind → t.kind j = s.kind j) ∧ t.inc = { s.inc with kinds := t.inc.kinds } ∧
      (1 ≤ l.kind ∧ l.kind ≤ 8 → k.present = true ∧ k.selfClearing = (s.kind l.kind).selfClearing) ∧
      s.replied t (c.reply 0xCD .accepted []))

/-- R194, R52, R51, R137: an accepted load of a platform, a section, a feeder or a zone sets the record's loaded fields and
what the rule resets, and keeps the other records of its table; LOAD PLATFORM recomputes the display cell. (That LOAD FEEDER
keeps an order that waits with the feeder is the model's choice, log entry 20.) -/
def Obligations.LineLoadsSetRecords : Prop :=
  ∀ (s : State) (c : Sender), c.privs.supervisor = true → s.hnd.op = .configuring →
    (∀ payload l m, s.asks 0xC9 c payload → parsePlatform payload = some l → l.ok = true → modeOf l.mode = some m →
      ∃ t, exec .loadPlatform s = .next t ∧ s.onlyChanges t [.reg, .hnd, .consolePort] ∧
      t.plat l.platform = { s.plat l.platform with
        loaded := true, station := l.station, display := l.display, sect := l.sect, zones := l.zones,
        displayAddr := l.displayAddr, mode := m, hmax := l.hmax, early := l.early, lateLimit := l.lateLimit,
        lapse := l.lapse, cellNow := t.cellContent l.platform, cellPending := (t.plat l.platform).cellPending,
        cellSince := (t.plat l.platform).cellSince } ∧
      (∀ q, q ≠ l.platform → t.plat q = s.plat q) ∧ t.reg.trains = s.reg.trains ∧
      s.replied t (c.reply 0xC9 .accepted [])) ∧
    (∀ k cap w : Nat, s.asks 0xCA c (u8 k ++ u16 cap ++ u8 w) → k < Config.sections → cap ≤ 20000 → 4 ≤ w → w ≤ 60 →
      ∃ t, exec .loadSection s = .next t ∧ s.onlyChanges t [.reg, .pow, .hnd, .consolePort] ∧
      t.sect k = { s.sect k with loaded := true, cap := cap, window := w, st := .unknown, attempts := 0, deadline := none,
                                 overCount := 0, underCount := 0, measLost := false, ceff := cap * s.fraction k / 8,
                                 m := s.measured k, notice := (t.sect k).notice, reserved := (t.sect k).reserved } ∧
      (∀ j, j ≠ k → t.sect j = s.sect j) ∧ t.pow.feeders = s.pow.feeders ∧
      ((s.sect k).st = .energised → (t.sect k).reserved = 0) ∧ t.repliedLast (c.reply 0xCA .accepted [])) ∧
    (∀ i sub num k : Nat, s.asks 0xCB c (u8 i ++ u8 sub ++ u8 num ++ u8 k) → i < Config.feeders → sub < Config.substations →
      num ≤ 7 → k < Config.sections → (s.sect k).loaded = true →
      (∀ j, j < Config.feeders → j ≠ i → (s.feeder j).loaded = true → (s.feeder j).substation = sub →
        (s.feeder j).number ≠ num) →
      ((s.feedersOf k).filter (fun j => decide (j ≠ i))).length < 4 → ∃ t, exec .loadFeeder s = .next t ∧
      t.feeder i = { loaded := true, substation := sub, number := num, sect := k, history := [], median := 0,
                     breaker := .unknown, stale := false, waiting := (s.feeder i).waiting } ∧
      (∀ j, j ≠ i → t.feeder j = s.feeder j) ∧ (t.sect k).m = t.measured k ∧
      ((s.feeder i).loaded = true → (t.sect (s.feeder i).sect).m = t.measured (s.feeder i).sect) ∧
      s.onlyChanges t [.reg, .pow, .hnd, .fieldPort, .consolePort] ∧ s.replied t (c.reply 0xCB .accepted [])) ∧
    (∀ z a st p : Nat, s.asks 0xCF c (u8 z ++ u16 a ++ u8 st ++ u8 p) → z < Config.zones → 1 ≤ a → a ≤ 4093 →
      st < Config.stations → p < Config.platforms ∨ p = 255 → ∃ t, exec .loadZone s = .next t ∧
      s.onlyChanges t [.com, .hnd, .consolePort] ∧ (t.zone z).loaded = true ∧ (t.zone z).addr = some a ∧
      (t.zone z).station = st ∧ (t.zone z).platform = (if p = 255 then none else some p) ∧ (t.zone z).st = .idle ∧ (t.zone z).queue = [] ∧
      (t.zone z).lock = .unlocked ∧ (∀ y, y ≠ z → t.zone y = s.zone y) ∧ s.replied t (c.reply 0xCF .accepted []))

/-- R3, R4: BIND TRAIN binds a FREE slot to an unused address, which takes role TRAIN; RELEASE TRAIN frees the slot, its pool
entry and its address. -/
def Obligations.BindAndReleaseTrain : Prop :=
  ∀ (s : State) (c : Sender) (n : Nat), c.privs.has .dispatch = true → n < Config.slots →
    (∀ a trip cls : Nat, s.asks 0xD0 c (u8 n ++ u16 a ++ u16 trip ++ u8 cls) → 1 ≤ a → a ≤ 4093 → trip < 65536 → cls < 4 →
      (s.slot n).st = .free → (s.unit a).role = .unused → s.anyConsole a = false → ∃ t, exec .bindTrain s = .next t ∧
      t.slot n = { addr := some a, trip := trip, cls := cls, st := .unplaced, lastHeard := s.now } ∧
      (∀ j, j ≠ n → t.slot j = s.slot j) ∧ t.unit a = { s.unit a with role := .train, index := n } ∧
      (∀ b, b ≠ a → t.unit b = s.unit b) ∧ s.onlyChanges t [.cls, .reg, .hnd, .fieldPort, .consolePort] ∧
      s.replied t (c.reply 0xD0 .accepted [])) ∧
    (s.asks 0xD1 c (u8 n) → (s.slot n).st ≠ .free → ∃ t, exec .releaseTrain s = .next t ∧ t.slot n = {} ∧
      t.pool n = .free ∧ (∀ a, (s.slot n).addr = some a → (t.unit a).role = .unused) ∧
      (∀ b, (s.slot n).addr ≠ some b → t.unit b = s.unit b) ∧ t.tim = s.tim ∧ t.hnd.op = s.hnd.op ∧
      t.repliedLast (c.reply 0xD1 .accepted [])) ∧
    (s.asks 0xD1 c (u8 n) → (s.slot n).st = .free → ∃ t, exec .releaseTrain s = .next t ∧ s.refusedWith t c 0xD1 .notFound)

/-- R19, R20, R23: APPEND CALLS adds its records at the ring's tail, whole; it gets RING FULL without room for them, and OUT OF
ORDER where a scheduled departure falls, from the ring's tail to the first record or within the request. CANCEL CALL cancels the first live record of the
trip while it is PENDING, is BUSY when that record is ACTIVE, and NOT FOUND without one. -/
def Obligations.AppendAndCancelCalls : Prop :=
  ∀ (s : State) (c : Sender) (p : Nat), c.privs.has .dispatch = true → p < Config.platforms → (s.plat p).loaded = true →
    (∀ payload rs, s.asks 0xD2 c payload → parseAppend payload = some (p, rs) → rs.all callOk = true →
      ((s.plat p).ring.length + rs.length ≤ 32 →
        ((s.plat p).ring.map CallRecord.schedDep).Pairwise (· ≤ ·) →
        (((s.plat p).ring ++ rs).map CallRecord.schedDep).Pairwise (· ≤ ·) →
        ∃ t, exec .appendCalls s = .next t ∧ (t.plat p).ring = (s.plat p).ring ++ rs ∧ (t.plat p).head = (s.plat p).head ∧
        (∀ q, q ≠ p → t.plat q = s.plat q) ∧ t.reg.trains = s.reg.trains ∧ t.reg.outcomes = s.reg.outcomes ∧
        s.onlyChanges t [.reg, .hnd, .fieldPort, .consolePort] ∧
        s.replied t (c.reply 0xD2 .accepted (u8 (32 - ((s.plat p).ring.length + rs.length))))) ∧
      (32 < (s.plat p).ring.length + rs.length → ∃ t, exec .appendCalls s = .next t ∧ s.refusedWith t c 0xD2 .ringFull) ∧
      ((s.plat p).ring.length + rs.length ≤ 32 →
        (∃ r x, rs.head? = some r ∧ (s.plat p).ring.getLast? = some x ∧ r.schedDep < x.schedDep) ∨
          ¬ (rs.map CallRecord.schedDep).Pairwise (· ≤ ·) →
        ∃ t, exec .appendCalls s = .next t ∧ s.refusedWith t c 0xD2 .outOfOrder)) ∧
    (∀ trip : Nat, s.asks 0xD3 c (u8 p ++ u16 trip) → trip < 65536 → ∃ t, exec .cancelCall s = .next t ∧
      match (s.plat p).ring.find? (fun r => decide (r.trip = trip) && !r.disp.finished) with
      | none => s.refusedWith t c 0xD3 .notFound
      | some r =>
        if r.disp = .active then s.refusedWith t c 0xD3 .busy
        else ∃ i, (s.plat p).ring[i]? = some r ∧
          (t.plat p).ring = ((s.plat p).ring.set i { r with disp := .cancelled }).dropWhile (fun x => x.disp.finished) ∧
          (∀ q, q ≠ p → t.plat q = s.plat q) ∧ t.reg.trains = s.reg.trains ∧
          s.onlyChanges t [.reg, .hnd, .fieldPort, .consolePort] ∧ t.repliedLast (c.reply 0xD3 .accepted []))

/-- R195, R134: SET PLATFORM MODE replaces the loaded mode and answers with it and the effective mode; ARM ANNOUNCEMENT
replaces the platform's arming, and with an absent template disarms the platform, whose class and flag are those sent. -/
def Obligations.PlatformModeAndArming : Prop :=
  ∀ (s : State) (c : Sender) (p : Nat), c.privs.has .dispatch = true → p < Config.platforms → (s.plat p).loaded = true →
    (∀ (m : Mode), s.asks 0xD4 c (u8 p ++ u8 m.code) → ∃ t, exec .setPlatformMode s = .next t ∧
      t.plat p = { s.plat p with mode := m } ∧ (∀ q, q ≠ p → t.plat q = s.plat q) ∧
      t.reg = { s.reg with platforms := t.reg.platforms } ∧ s.onlyChanges t [.reg, .hnd, .consolePort] ∧
      t.hnd.op = s.hnd.op ∧ s.replied t (c.reply 0xD4 .accepted (u8 m.code ++ u8 (if s.platHeadway p = true then 2 else m.code)))) ∧
    (∀ (template : Option Nat) (cls : Nat) (repeating : Bool),
      s.asks 0xDB c (u8 p ++ o8 template ++ u8 cls ++ flag repeating) →
      (∀ n, template = some n → n < Config.templates) → 1 ≤ cls → cls ≤ 4 → ∃ t, exec .armAnnouncement s = .next t ∧
      t.arming p = { template := template, cls := cls, repeating := repeating } ∧
      (∀ q, q ≠ p → t.arming q = s.arming q) ∧ t.com = { s.com with armings := t.com.armings } ∧
      s.onlyChanges t [.com, .hnd, .consolePort] ∧ t.hnd.op = s.hnd.op ∧ s.replied t (c.reply 0xDB .accepted []))

/-- R92 to R96: a raise with no ACTIVE incident of its kind and location fills the lowest free entry, under a number that
no entry carries; one with such an incident adds an occurrence. Into a full table it takes the entry at the front of the
cleared list, whose incident is freed with a notice FREED (R94, R106, R108); with an empty cleared list it gets TABLE FULL. (How
the result is laid out, and that at a MERGED raise its last byte is the number of effects of the entry merged into, is the
model's choice, log entry 26: the spec does not say whether it is that or 0.) -/
def Obligations.RaiseIncidentMakesEntry : Prop :=
  ∀ (s : State) (c : Sender) (payload : List Byte) (a : RaiseReq) (loc : Location) (ts : List EffectTemplate),
    s.asks 0xD5 c payload → c.privs.has .dispatch = true → s.hnd.op = .running → parseRaise payload = some a →
    s.raiseArgs a = some (loc, ts) → ∃ t, exec .raiseIncident s = .next t ∧ t.hnd.op = .running ∧ t.tim = s.tim ∧
    let made (i : Nat) : Prop := ∃ v, t.incident i = some v ∧ v.kind = a.kind ∧
      v.loc = loc ∧ v.severity = a.severity.getD (s.kind a.kind).severity ∧ v.st = .activeUnack ∧
      v.raiser = .console c.entry ∧ v.raised = s.now ∧ v.occurrences = 1 ∧ v.ackBy = none ∧
      v.effects = s.resolve loc ((s.kind a.kind).templates ++ ts) ∧
      (∀ j w, j < Config.entries → s.incident j = some w → j ≠ i → w.number ≠ v.number) ∧
      (∀ j, j ≠ i → t.incident j = s.incident j) ∧
      t.repliedLast (c.reply 0xD5 .accepted (u16 v.number ++ u8 i ++ u8 0 ++ u8 v.effects.length))
    (∀ i, s.openIncident a.kind loc = none → s.freeIncident = some i → made i ∧ t.inc.cleared = s.inc.cleared) ∧
    (∀ i rest w, s.openIncident a.kind loc = none → s.freeIncident = none → s.inc.cleared = i :: rest →
      s.incident i = some w → made i ∧ t.inc.cleared = rest.filter (fun j => decide (j ≠ i)) ∧
      let n := w.notice none .freed
      (s.incNotice i = none → s.inc.order = [] → s.hasRoom .console n.lane = true →
        n.frame ∈ t.consolePort.queue n.lane)) ∧
    (∀ i v, s.openIncident a.kind loc = some i → s.incident i = some v → ∃ w, t.incident i = some w ∧
      w.number = v.number ∧ w.occurrences = min (v.occurrences + 1) 255 ∧ w.st = .activeUnack ∧ w.effects = v.effects ∧
      (∀ j, j ≠ i → t.incident j = s.incident j) ∧ s.onlyChanges t [.inc, .hnd, .consolePort] ∧
      t.repliedLast (c.reply 0xD5 .accepted (u16 v.number ++ u8 i ++ u8 1 ++ u8 v.effects.length))) ∧
    (s.openIncident a.kind loc = none → s.freeIncident = none → s.inc.cleared = [] → s.refusedWith t c 0xD5 .tableFull)

/-- R101, R103, R104, R106: an acknowledgement moves ACTIVE-UNACK to ACTIVE-ACK and frees a CLEARED-UNACK incident; a clear,
with the kind's privilege, frees an ACTIVE-ACK incident and moves an ACTIVE-UNACK one to the tail of the cleared list. (That a
result gives FREE as 3 is the model's coding, log entry 26.) -/
def Obligations.AcknowledgeAndClear : Prop :=
  ∀ (s : State) (c : Sender) (num i : Nat) (v : Incident), 0 < num → num < 65536 →
    s.entryOf num = some i → s.incident i = some v →
    (s.asks 0xD6 c (u16 num) → c.privs.has .dispatch = true → ∃ t, exec .ackIncident s = .next t ∧
      (∀ j, j ≠ i → t.incident j = s.incident j) ∧ s.onlyChanges t [.inc, .hnd, .consolePort] ∧
      match v.st with
      | .activeUnack => t.incident i = some { v with st := .activeAck, ackBy := some c.entry, deadline := none } ∧
          t.inc.cleared = s.inc.cleared ∧ t.repliedLast (c.reply 0xD6 .accepted (u8 1))
      | .activeAck => t.inc = s.inc ∧ s.replied t (c.reply 0xD6 .accepted (u8 1))
      | .clearedUnack => t.incident i = none ∧ t.inc.cleared = s.inc.cleared.filter (fun j => decide (j ≠ i)) ∧
          t.repliedLast (c.reply 0xD6 .accepted (u8 3))) ∧
    (s.asks 0xD7 c (u16 num) → (c.privs.has (s.kind v.kind).clearPriv = false → ∃ t, exec .clearIncident s = .next t ∧
        s.refusedWith t c 0xD7 .notPermitted) ∧
      (c.privs.has (s.kind v.kind).clearPriv = true → ∃ t, exec .clearIncident s = .next t ∧
        (∀ j, j ≠ i → t.incident j = s.incident j) ∧ t.tim = s.tim ∧ t.cls = s.cls ∧ t.hnd.op = s.hnd.op ∧
        match v.st with
        | .activeAck => t.incident i = none ∧ t.inc.cleared = s.inc.cleared.filter (fun j => decide (j ≠ i)) ∧
            t.repliedLast (c.reply 0xD7 .accepted (u8 3))
        | .activeUnack => t.incident i = some { v with st := .clearedUnack, deadline := none } ∧
            t.inc.cleared = s.inc.cleared ++ [i] ∧ t.repliedLast (c.reply 0xD7 .accepted (u8 2))
        | .clearedUnack => t.inc = s.inc ∧ s.replied t (c.reply 0xD7 .accepted (u8 2))))

/-- R61, R64, R67 to R69: ISOLATE SECTION takes a section with all breakers OPEN to ISOLATED without an order, and any other
to ISOLATING with an ISOLATE ORDER for each of its feeders; ENERGISE SECTION is BUSY while the section switches, INTERLOCKED
under an interlock, without effect in ENERGISED, and otherwise enters ENERGISING with an ENERGISE ORDER for each feeder. (That a
section with no feeder moves as well is the model's choice, log entry 41; a deadline set at the last line time is kept as one
that no step reaches, log entry 4.) -/
def Obligations.IsolateAndEnergiseSection : Prop :=
  ∀ (s : State) (c : Sender) (k : Nat), c.privs.has .power = true → s.hnd.op = .running → k < Config.sections →
    (s.sect k).loaded = true →
    (s.asks 0xD8 c (u8 k) → ∃ t, exec .isolateSection s = .next t ∧ s.onlyChanges t [.reg, .pow, .hnd, .fieldPort, .consolePort] ∧
      (∀ j, j ≠ k → t.sect j = s.sect j) ∧
      (s.breakers k = .allOpen ∨ (s.sect k).st = .isolated → (t.sect k).st = .isolated ∧
        t.fieldPort.urgent = s.fieldPort.urgent ∧ t.fieldPort.normal = s.fieldPort.normal ∧
        t.repliedLast (c.reply 0xD8 .accepted (u8 3))) ∧
      (s.breakers k ≠ .allOpen → (s.sect k).st ≠ .isolated → (t.sect k).st = .isolating ∧ (t.sect k).attempts = 1 ∧
        (t.sect k).deadline = some (s.instant (s.now + 80)) ∧ s.ordersSent t k .isolate 1 (fun _ => True) ∧
        t.repliedLast (c.reply 0xD8 .accepted (u8 2))) ∧
      ((s.sect k).st = .energised → (t.sect k).reserved = 0 ∧
        ∀ n, n < Config.slots → ∀ j a e r, t.pool n ≠ .reservation k j a e r)) ∧
    (s.asks 0xD9 c (u8 k) → ∃ t, exec .energiseSection s = .next t ∧
      if (s.sect k).st.switching = true then s.refusedWith t c 0xD9 .busy
      else if s.interlocked k = true then s.refusedWith t c 0xD9 .interlocked
      else if (s.sect k).st = .energised then s.onlyChanges t [.hnd, .consolePort] ∧ s.replied t (c.reply 0xD9 .accepted (u8 1))
      else (t.sect k).st = .energising ∧ (t.sect k).attempts = 1 ∧
        (t.sect k).deadline = some (s.instant (s.now + 80)) ∧ (∀ j, j ≠ k → t.sect j = s.sect j) ∧
        s.ordersSent t k .energise 1 (fun _ => True) ∧
        s.onlyChanges t [.reg, .pow, .hnd, .fieldPort, .consolePort] ∧ t.repliedLast (c.reply 0xD9 .accepted (u8 4)))

/-- R139 to R141: an announcement offered to one zone is merged into a duplicate, joins the end of a queue with room, in a
full queue evicts the last QUEUED entry of the lowest class below its own, or is BUSY where there is none. R142, R132: an IDLE
zone selects the best eligible entry, which resumes from the suspended slot within 480 eighths and otherwise starts afresh with
at most 48 codes of its template's elements; a stale ROUTINE entry leaves the slot first. R148 to R150: an EMERGENCY entry
preempts a lower class at once, with PA ABORT before its own frame when a frame is in flight. R155: at the boundary of a FRAME
DONE of this line time it preempts without PA ABORT, and the frames that are queued keep their places (R183): a play that went
on is suspended at the frame that followed, and an entry that the FRAME DONE had started stands as before its start, beside the
entry suspended there (how the two events are told to fall together is the model's reading, log entry 38). The result gives QUEUED, MERGED and BUSY as 0,
1 and 2 (the model's coding, log entry 26). -/
def Obligations.AnnounceOffersEntry : Prop :=
  (∀ (s : State) (v : Zone) (x : QEntry) (es : List Element), s.template x.template = some es →
    let all := es.flatMap (s.elementCodes v x)
    s.compose v x = { codes := all.take 48, trunc := decide (48 < all.length) } ∧
    (s.compose v x).frames ≤ 6 ∧ ∀ n, Element.code n ∈ es → n ∈ all) ∧
  ∀ (s : State) (c : Sender) (template cls reps arg1 arg2 z : Nat),
    s.asks 0xDA c (u8 template ++ u8 cls ++ u8 reps ++ u8 arg1 ++ u8 arg2 ++ u8 1 ++ u8 z) →
    c.privs.has .dispatch = true → s.hnd.op = .running → template < Config.templates → 1 ≤ cls → cls ≤ 4 → 1 ≤ reps →
    reps ≤ 3 → (arg1 ≤ 99 ∨ arg1 = 255) → (arg2 ≤ 99 ∨ arg2 = 255) → z < Config.zones → (s.zone z).loaded = true →
    let same : QEntry → Bool := fun x =>
      decide (x.template = template) && decide (x.arg1 = arg1) && decide (x.arg2 = arg2) && x.tag.isNone
    let old := (s.zone z).queue
    let e : QEntry := { template := template, cls := cls, repeats := reps, arg1 := arg1, arg2 := arg2,
                        origin := .console c.entry }
    let waits : Prop := (s.zone z).st = .fault ∨ ((s.zone z).st ≠ .idle ∧ cls < 4)
    ∃ t, exec .announce s = .next t ∧ (∀ y, y ≠ z → t.zone y = s.zone y) ∧
    s.onlyChanges t [.com, .hnd, .fieldPort, .consolePort] ∧
    (old.any same = true → (t.zone z).queue.length = old.length ∧
      (∃ x ∈ (t.zone z).queue, same x = true ∧ reps ≤ x.repeats) ∧ s.replied t (c.reply 0xDA .accepted (u8 1 ++ u8 1))) ∧
    (old.any same = false → old.length < 8 → waits → (t.zone z).queue = old ++ [e] ∧
      s.replied t (c.reply 0xDA .accepted (u8 1 ++ u8 0))) ∧
    (∀ pre x post, old.any same = false → old = pre ++ x :: post → 8 ≤ old.length → waits → x.st = .queued → x.cls < cls →
      (∀ y ∈ pre, y.st = .queued → x.cls ≤ y.cls) → (∀ y ∈ post, y.st = .queued → x.cls < y.cls) →
      (t.zone z).queue = pre ++ post ++ [e] ∧ t.com.zoneDrops = min (s.com.zoneDrops + 1) 65535 ∧
      t.repliedLast (c.reply 0xDA .accepted (u8 1 ++ u8 0))) ∧
    (old.any same = false → 8 ≤ old.length → (∀ x ∈ old, x.st = .queued → cls ≤ x.cls) →
      t.com = s.com ∧ s.replied t (c.reply 0xDA .busy (u8 1 ++ u8 2))) ∧
    (old.any same = false → old.length < 8 → (s.zone z).st = .idle → (s.zone z).playing = none →
      t.repliedLast (c.reply 0xDA .accepted (u8 1 ++ u8 0)) ∧
      ((∀ x ∈ old, x.st = .suspended → x.cls = 1 → s.now ≤ x.suspended + 960) →
        match bestOf ({ s.zone z with queue := old ++ [e] } : Zone).candidates with
        | none => (t.zone z).st = .idle ∧ (t.zone z).queue = old ++ [e]
        | some x =>
          if x.st = .suspended ∧ s.now ≤ x.suspended + 480 then s.resumed t z x
          else (s.compose (s.zone z) x).codes ≠ [] → s.begins t z x) ∧
      ∀ x, old.filter QEntry.isSuspended = [x] → x.cls = 1 → x.suspended + 960 < s.now →
        ∀ y ∈ (t.zone z).queue, y.st ≠ .suspended) ∧
    ∀ p, old.any same = false → old.length < 8 → ((s.zone z).st = .sending ∨ (s.zone z).st = .gap) →
      (s.zone z).playing = some p → cls = 4 → p.cls < 4 → (∀ x ∈ old, x.cls < 4) → (s.compose (s.zone z) e).codes ≠ [] →
      let together (o : Outstanding) : Prop := (s.zone z).st = .sending ∧ o.boundary = some s.now
      t.repliedLast (c.reply 0xDA .accepted (u8 1 ++ u8 0)) ∧
      ((∀ o, (s.zone z).outstanding = some o → together o → o.start = none) →
        s.begins t z e ∧ (t.zone z).suspBuf = (s.zone z).playBuf ∧
        ({ p with st := EntryState.suspended, savedIdx := (s.zone z).currentIdx, suspended := s.now } : QEntry) ∈
          (t.zone z).queue ∧
        ((s.zone z).st = .gap → s.sendsNoAbort t z) ∧
        ∀ o, (s.zone z).st = .sending → (s.zone z).outstanding = some o →
          if o.queued = false ∨ o.boundary = some s.now then s.sendsNoAbort t z
          else s.fieldPort.urgent.length + 1 < Config.urgentCap → (s.zone z).abort = none →
            ∃ o', (t.zone z).outstanding = some o' ∧ t.fieldPort.urgent = s.fieldPort.urgent ++
              [paAbort ((s.zone z).addr.getD 0) z, (t.zone z).paFrame z o'] ∧ t.fieldPort.normal = s.fieldPort.normal) ∧
      ∀ o found, (s.zone z).outstanding = some o → together o → o.start = some found →
        old.filter QEntry.isPlaying = [p] →
        (∀ x ∈ old, x.st = .suspended ∨ (x.st = .playing ∧ found.entry.st = .suspended) → x.cls = 1 →
          s.now ≤ x.suspended + 960) →
        (s.modZone z (fun v => { v with tagCounter := if o.queued = true then v.tagCounter else o.tag })).begins t z e ∧
        (t.zone z).suspBuf = found.suspBuf ∧
        (∀ x ∈ old, x.st ≠ .playing → x ∈ (t.zone z).queue) ∧
        ({ p with st := if found.entry.st = .suspended then EntryState.suspended else .queued,
                  entryTag := found.entry.entryTag, lastCount := found.entry.lastCount,
                  lastTrunc := found.entry.lastTrunc } : QEntry) ∈ (t.zone z).queue ∧
        s.sendsNoAbort t z

/-- R152: LOCK ZONE takes an unlocked zone and renews the console's own lock, and is BUSY under another's lock without
SUPERVISOR; UNLOCK ZONE releases the console's own lock; a console lock of 7,200 eighths is released by age. -/
def Obligations.ZoneLocks : Prop :=
  ∀ (s : State) (z : Nat), z < Config.zones → (s.zone z).loaded = true →
    (∀ c : Sender, s.asks 0xDC c (u8 z) → c.privs.has .dispatch = true → s.hnd.op = .running →
      ∃ t, exec .lockZone s = .next t ∧ (∀ y, y ≠ z → t.zone y = s.zone y) ∧
      (((s.zone z).lock = .unlocked ∨ (s.zone z).lock = .console c.entry ∨ c.privs.supervisor = true) →
        (t.zone z).lock = .console c.entry ∧ (t.zone z).lockInstant = s.now ∧
        s.onlyChanges t [.com, .hnd, .fieldPort, .consolePort] ∧ t.repliedLast (c.reply 0xDC .accepted [])) ∧
      ((s.zone z).lock ≠ .unlocked → (s.zone z).lock ≠ .console c.entry → c.privs.supervisor = false →
        s.refusedWith t c 0xDC .busy)) ∧
    (∀ c : Sender, s.asks 0xDD c (u8 z) → c.privs.has .dispatch = true →
      ∃ t, exec .unlockZone s = .next t ∧ (∀ y, y ≠ z → t.zone y = s.zone y) ∧
      (((s.zone z).lock = .unlocked ∨ (s.zone z).lock = .console c.entry ∨ c.privs.supervisor = true) →
        (t.zone z).lock = .unlocked ∧ s.onlyChanges t [.com, .hnd, .fieldPort, .consolePort] ∧
        t.repliedLast (c.reply 0xDD .accepted [])) ∧
      ((s.zone z).lock ≠ .unlocked → (s.zone z).lock ≠ .console c.entry → c.privs.supervisor = false →
        s.refusedWith t c 0xDD .notPermitted)) ∧
    (∀ e, s.running = true → (s.zone z).lock = .console e → (s.zone z).lockInstant < Config.maxTime →
      min ((s.zone z).lockInstant + 7200) Config.maxTime ≤ s.now →
      ∃ t, exec (.lockAgeRelease z) s = .next t ∧ (t.zone z).lock = .unlocked ∧ (∀ y, y ≠ z → t.zone y = s.zone y) ∧
      s.onlyChanges t [.com, .fieldPort, .consolePort])

/-! ## What every step keeps -/

/-- From every state whose timing unit is in its ranges, a step leads to one whose timing unit is. -/
def Obligations.TimingStaysInRange : Prop :=
  ∀ s t : State, s.tim.inRange → step s = .next t → t.tim.inRange

/-- Law 11 (R158): line time never decreases while RUNNING, whatever command is taken short of a reset. -/
def Obligations.LineTimeNeverFalls : Prop :=
  ∀ s t : State, s.running = true → s.pending.head? ≠ some .resetAsserted →
    (∀ straps, s.pending.head? ≠ some (.resetReleased straps)) → step s = .next t → s.now ≤ t.now

/-- R182, R183, R138, R48: the capacities of the ports, the zone queues and the batch buffer are kept by every step, and so
is the condition that makes them hold, that a room list names only blocks with a frame waiting for its queue (R185). R138,
R151: that a zone in FAULT plays nothing is kept by every step, and with it Law 8, that a zone has at most one PLAYING entry,
and none while IDLE. -/
def Obligations.CapacitiesRoomListsAndFaultedZonesAreKept : Prop :=
  (∀ s t : State, s.portsInRange → s.zonesInRange → s.outcomesInRange → s.roomsHold → step s = .next t →
    t.portsInRange ∧ t.zonesInRange ∧ t.outcomesInRange ∧ t.roomsHold) ∧
  (∀ s t : State, s.faultsPlayNothing → step s = .next t → t.faultsPlayNothing) ∧
  ∀ s t : State, s.faultsPlayNothing → s.zonesPlayOne → step s = .next t → t.zonesPlayOne

/-- Law 12 (R110): the interlocks, cap fractions, platform holds and headway modes are those of the ACTIVE incidents'
effects, after every step from a state where they are. -/
def Obligations.EffectiveValuesFollowActiveIncidents : Prop :=
  ∀ s t : State, s.law12 → step s = .next t → t.law12

/-- Law 6 (R18): a ring holds at most 32 records with scheduled departures that do not fall, after every step from a state
where this holds. R17: with it, the only ACTIVE record of a ring stays the one at its active reference, and the head position
and the reference stay below 32. -/
def Obligations.RingsStayOrdered : Prop :=
  (∀ s t : State, s.law6 → step s = .next t → t.law6) ∧
  ∀ s t : State, s.law6 → s.callsServedOnce → step s = .next t → t.callsServedOnce

/-- Every table stays in its canonical form, so that equal contents are equal data. -/
def Obligations.TablesStayCanonical : Prop := ∀ s t : State, s.tablesWf → step s = .next t → t.tablesWf

/-- The conditions that every step keeps hold at reset. -/
def Obligations.ResetMeetsInvariants : Prop :=
  State.reset.tim.inRange ∧ State.reset.portsInRange ∧ State.reset.zonesInRange ∧ State.reset.outcomesInRange ∧
  State.reset.roomsHold ∧ State.reset.faultsPlayNothing ∧ State.reset.zonesPlayOne ∧ State.reset.law12 ∧ State.reset.law6 ∧
  State.reset.callsServedOnce ∧ State.reset.tablesWf
end

