-- ==== Sys2Proof/Laws/Bytes.lean ====
section
/-! SUPPORT. Numbers written to bytes and read back (R188, R189), and the frame of Table 11-3 read back from its run. -/

namespace Sys2Proof.Machine

theorem toNat_byte {n : Nat} (h : n < 256) : (BitVec.ofNat 8 n).toNat = n := by
  simp only [BitVec.toNat_ofNat]; omega

/-- Two bytes, most significant first, give their number. -/
theorem of16_bytes {n : Nat} (h : n < 65536) : of16 (BitVec.ofNat 8 (n / 256)) (BitVec.ofNat 8 n) = n := by
  simp only [of16, BitVec.toNat_ofNat]; omega

/-- Three bytes, most significant first, give their number. -/
theorem of24_bytes {n : Nat} (h : n < 16777216) :
    of24 (BitVec.ofNat 8 (n / 65536)) (BitVec.ofNat 8 (n / 256)) (BitVec.ofNat 8 n) = n := by
  simp only [of24, BitVec.toNat_ofNat]; omega

/-- A signed byte gives its number. -/
theorem ofI8_byte {x : Int} (h₁ : -128 ≤ x) (h₂ : x ≤ 127) : ofI8 (BitVec.ofInt 8 x) = x := by
  simp only [ofI8, BitVec.toInt_ofInt]
  exact Int.bmod_eq_of_le (by omega) (by omega)

/-- A signed number in two bytes gives its number. -/
theorem ofI16_bytes {x : Int} (h₁ : -32768 ≤ x) (h₂ : x ≤ 32767) : ∃ a b, i16 x = [a, b] ∧ ofI16 a b = x := by
  have hlt : (BitVec.ofInt 16 x).toNat < 65536 := (BitVec.ofInt 16 x).isLt
  refine ⟨BitVec.ofNat 8 ((BitVec.ofInt 16 x).toNat / 256), BitVec.ofNat 8 (BitVec.ofInt 16 x).toNat, rfl, ?_⟩
  rw [ofI16, of16_bytes hlt, BitVec.ofNat_toNat, BitVec.setWidth_eq, BitVec.toInt_ofInt]
  exact Int.bmod_eq_of_le (by omega) (by omega)

theorem byte_ne_absent {n : Nat} (h : n < 255) : BitVec.ofNat 8 n ≠ 0xFF#8 := by
  intro hc
  have := congrArg BitVec.toNat hc
  simp at this
  omega

/-- An optional byte that is present gives its number. -/
theorem opt8_byte {n : Nat} (h : n < 255) : opt8 (BitVec.ofNat 8 n) = some n := by
  simp [opt8, byte_ne_absent h]; omega

@[simp] theorem flagOf_flag (b : Bool) : flagOf (BitVec.ofNat 8 b.toNat) = some b := by cases b <;> decide

@[simp] theorem u16_length (n : Nat) : (u16 n).length = 2 := rfl
@[simp] theorem u8_length (n : Nat) : (u8 n).length = 1 := rfl
@[simp] theorem u24_length (n : Nat) : (u24 n).length = 3 := rfl
@[simp] theorem i8_length (x : Int) : (i8 x).length = 1 := rfl

end Sys2Proof.Machine
end

