-- ==== Sys2Proof/Laws/Tables.lean ====
section
/-! SUPPORT. What reading and writing a table do: a read after a write, and the canonical form that every write keeps. -/

namespace Sys2Proof.Machine

variable {α : Type}

@[simp] theorem Tab.get_nil (d : α) (n : Nat) : Tab.get d [] n = d := rfl

/-- A read after a write at the same index gives the value written. -/
@[simp] theorem Tab.get_set_self [DecidableEq α] (d : α) (t : Tab α) (n : Nat) (v : α) :
    Tab.get d (Tab.set d t n v) n = v := by
  induction t with
  | nil => by_cases h : v = d <;> simp [Tab.set, Tab.get, h]
  | cons e t ih =>
    obtain ⟨k, w⟩ := e
    simp only [Tab.set]
    split
    · split
      · rename_i h; simpa [h] using ih
      · simp [Tab.get]
    · split
      · simp [Tab.get]
      · rename_i h _; simp [Tab.get, h, ih]

/-- A write leaves every other index alone. -/
theorem Tab.get_set_ne [DecidableEq α] (d : α) (t : Tab α) {n m : Nat} (v : α) (h : m ≠ n) :
    Tab.get d (Tab.set d t n v) m = Tab.get d t m := by
  induction t with
  | nil => by_cases hv : v = d <;> simp [Tab.set, Tab.get, hv, h]
  | cons e t ih =>
    obtain ⟨k, w⟩ := e
    simp only [Tab.set]
    split
    · rename_i hk
      subst hk
      split
      · rw [ih]; simp [Tab.get, h]
      · simp [Tab.get, h]
    · split
      · simp [Tab.get, h]
      · simp [Tab.get, ih]

theorem Tab.get_set [DecidableEq α] (d : α) (t : Tab α) (n m : Nat) (v : α) :
    Tab.get d (Tab.set d t n v) m = if m = n then v else Tab.get d t m := by
  split
  · rename_i h; subst h; simp
  · rename_i h; exact Tab.get_set_ne d t v h

/-! ## The canonical form -/

theorem Tab.wfFrom_weaken [DecidableEq α] {d : α} {lo lo' : Option Nat} {t : Tab α}
    (hlo : ∀ l', lo' = some l' → ∃ l, lo = some l ∧ l' ≤ l) (h : Tab.wfFrom d lo t = true) : Tab.wfFrom d lo' t = true := by
  cases t with
  | nil => rfl
  | cons e t =>
    obtain ⟨k, v⟩ := e
    simp only [Tab.wfFrom, Bool.and_eq_true] at h ⊢
    refine ⟨⟨?_, h.1.2⟩, h.2⟩
    cases lo' with
    | none => rfl
    | some l' =>
      obtain ⟨l, rfl, hl⟩ := hlo l' rfl
      have := h.1.1
      simp only [decide_eq_true_eq] at this ⊢
      omega

/-- Writing the reset record only removes. -/
theorem Tab.set_default_wfFrom [DecidableEq α] {d : α} {t : Tab α} {lo : Option Nat} {n : Nat}
    (h : Tab.wfFrom d lo t = true) : Tab.wfFrom d lo (Tab.set d t n d) = true := by
  induction t generalizing lo with
  | nil => simp [Tab.set, Tab.wfFrom]
  | cons e t ih =>
    obtain ⟨k, w⟩ := e
    simp only [Tab.wfFrom, Bool.and_eq_true, decide_eq_true_eq] at h
    obtain ⟨⟨hk, hw⟩, ht⟩ := h
    simp only [Tab.set]
    split
    · simp only [if_true]
      refine ih (Tab.wfFrom_weaken ?_ ht)
      intro l' hl'
      subst hl'
      exact ⟨k, rfl, by simpa using Nat.le_of_lt (by simpa using hk)⟩
    · simp only [ne_eq, not_true_eq_false, and_false, if_false]
      simp only [Tab.wfFrom, Bool.and_eq_true, decide_eq_true_eq]
      exact ⟨⟨hk, hw⟩, ih ht⟩

/-- A write above the lower bound keeps the canonical form above that bound. -/
theorem Tab.set_wfFrom [DecidableEq α] {d : α} {t : Tab α} {lo : Option Nat} (n : Nat) (v : α)
    (hn : ∀ l, lo = some l → l < n) (h : Tab.wfFrom d lo t = true) : Tab.wfFrom d lo (Tab.set d t n v) = true := by
  induction t generalizing lo with
  | nil =>
    by_cases hv : v = d
    · simp [Tab.set, hv, Tab.wfFrom]
    · cases lo with
      | none => simp [Tab.set, hv, Tab.wfFrom]
      | some l => simpa [Tab.set, hv, Tab.wfFrom] using hn l rfl
  | cons e t ih =>
    obtain ⟨k, w⟩ := e
    simp only [Tab.wfFrom, Bool.and_eq_true, decide_eq_true_eq] at h
    obtain ⟨⟨hk, hw⟩, ht⟩ := h
    simp only [Tab.set]
    split
    · rename_i hnk
      subst hnk
      split
      · refine ih hn (Tab.wfFrom_weaken ?_ ht)
        intro l' hl'
        exact ⟨n, rfl, Nat.le_of_lt (hn l' hl')⟩
      · rename_i hv
        simp only [Tab.wfFrom, Bool.and_eq_true, decide_eq_true_eq]
        exact ⟨⟨hk, hv⟩, ht⟩
    · split
      · rename_i hne hlt
        simp only [Tab.wfFrom, Bool.and_eq_true, decide_eq_true_eq]
        refine ⟨⟨?_, hlt.2⟩, ⟨hlt.1, hw⟩, ht⟩
        cases lo with
        | none => rfl
        | some l => simpa using hn l rfl
      · rename_i hne hnlt
        simp only [Tab.wfFrom, Bool.and_eq_true, decide_eq_true_eq]
        refine ⟨⟨hk, hw⟩, ?_⟩
        by_cases hv : n < k
        · have : v = d := by
            by_contra hvd
            exact hnlt ⟨hv, hvd⟩
          subst this
          exact Tab.set_default_wfFrom ht
        · refine ih ?_ ht
          intro l hl
          cases hl
          omega

/-- Every write keeps the canonical form. -/
theorem Tab.set_wf [DecidableEq α] {d : α} {t : Tab α} (n : Nat) (v : α) (h : Tab.wf d t = true) :
    Tab.wf d (Tab.set d t n v) = true :=
  Tab.set_wfFrom n v (fun _ h => by cases h) h

/-! ## Tables given by a function -/

theorem Tab.get_map_filter [DecidableEq α] (d : α) (f : Nat → α) (l : List Nat) (n : Nat) (hn : l.Nodup) :
    Tab.get d ((l.map (fun i => (i, f i))).filter (fun e => decide (e.2 ≠ d))) n = if n ∈ l then f n else d := by
  induction l with
  | nil => rfl
  | cons a l ih =>
    have hl := (List.nodup_cons.mp hn)
    simp only [List.map_cons, List.filter_cons]
    by_cases hd : f a = d
    · simp only [hd, ne_eq, not_true_eq_false, decide_false, Bool.false_eq_true, if_false, ih hl.2, List.mem_cons]
      by_cases hna : n = a
      · subst hna; simp [hl.1, hd]
      · simp [hna]
    · simp only [ne_eq, hd, not_false_eq_true, decide_true, if_true, Tab.get, ih hl.2, List.mem_cons]
      by_cases hna : n = a
      · subst hna; simp
      · simp [hna]

/-- The record of a table given by a function. -/
@[simp] theorem Tab.get_ofFn [DecidableEq α] (d : α) (m : Nat) (f : Nat → α) (n : Nat) :
    Tab.get d (Tab.ofFn d m f) n = if n < m then f n else d := by
  simpa [Tab.ofFn] using Tab.get_map_filter d f (List.range m) n List.nodup_range

/-! ## Scans and sorted lists -/

@[simp] theorem mem_indices {n : Nat} {p : Nat → Bool} {i : Nat} : i ∈ indices n p ↔ i < n ∧ p i = true := by
  simp [indices]

theorem mem_insertAsc {a b : Nat} {l : List Nat} : b ∈ insertAsc a l ↔ b = a ∨ b ∈ l := by
  induction l with
  | nil => simp [insertAsc]
  | cons c l ih =>
    simp only [insertAsc]
    split
    · simp
    · split
      · rename_i h; subst h; simp
      · simp only [List.mem_cons, ih]; tauto

/-- Sorting keeps the members. -/
@[simp] theorem mem_sortAsc {b : Nat} {l : List Nat} : b ∈ sortAsc l ↔ b ∈ l := by
  induction l with
  | nil => simp [sortAsc]
  | cons a l ih => simp [sortAsc, mem_insertAsc, ih]

theorem satSucc_le (cap n : Nat) : satSucc cap n ≤ cap := Nat.min_le_right _ _

theorem after_le (now d : Nat) : after now d ≤ Config.maxTime := Nat.min_le_right _ _

/-- A clamped value lies in its range. -/
theorem clamp_mem {lo hi x : Int} (h : lo ≤ hi) : lo ≤ clamp lo hi x ∧ clamp lo hi x ≤ hi := by
  unfold clamp
  split
  · omega
  · split <;> omega

end Sys2Proof.Machine
end

