-- ==== Sys2Proof/Laws/State.lean ====
section
/-! SUPPORT. The state's updates, field by field: what a block setter writes and what it leaves, and the same for the writers
of single records. All of them hold by definition, so that no proof unfolds a record update. -/

namespace Sys2Proof.Machine

/-! ## Block setters -/

@[simp] theorem State.setHnd_pending (s : State) (v : Handler) : (s.setHnd v).pending = s.pending := rfl
@[simp] theorem State.setHnd_resetHeld (s : State) (v : Handler) : (s.setHnd v).resetHeld = s.resetHeld := rfl
@[simp] theorem State.setHnd_event (s : State) (v : Handler) : (s.setHnd v).event = s.event := rfl
@[simp] theorem State.setHnd_hnd (s : State) (v : Handler) : (s.setHnd v).hnd = v := rfl
@[simp] theorem State.setHnd_cls (s : State) (v : Handler) : (s.setHnd v).cls = s.cls := rfl
@[simp] theorem State.setHnd_tim (s : State) (v : Handler) : (s.setHnd v).tim = s.tim := rfl
@[simp] theorem State.setHnd_reg (s : State) (v : Handler) : (s.setHnd v).reg = s.reg := rfl
@[simp] theorem State.setHnd_pow (s : State) (v : Handler) : (s.setHnd v).pow = s.pow := rfl
@[simp] theorem State.setHnd_inc (s : State) (v : Handler) : (s.setHnd v).inc = s.inc := rfl
@[simp] theorem State.setHnd_com (s : State) (v : Handler) : (s.setHnd v).com = s.com := rfl
@[simp] theorem State.setHnd_fieldPort (s : State) (v : Handler) : (s.setHnd v).fieldPort = s.fieldPort := rfl
@[simp] theorem State.setHnd_consolePort (s : State) (v : Handler) : (s.setHnd v).consolePort = s.consolePort := rfl
@[simp] theorem State.setHnd_unit (s : State) (v : Handler) : (s.setHnd v).unit = s.unit := rfl
@[simp] theorem State.setHnd_console (s : State) (v : Handler) : (s.setHnd v).console = s.console := rfl
@[simp] theorem State.setHnd_supervision (s : State) (v : Handler) : (s.setHnd v).supervision = s.supervision := rfl
@[simp] theorem State.setHnd_slot (s : State) (v : Handler) : (s.setHnd v).slot = s.slot := rfl
@[simp] theorem State.setHnd_trainNotice (s : State) (v : Handler) : (s.setHnd v).trainNotice = s.trainNotice := rfl
@[simp] theorem State.setHnd_plat (s : State) (v : Handler) : (s.setHnd v).plat = s.plat := rfl
@[simp] theorem State.setHnd_feeder (s : State) (v : Handler) : (s.setHnd v).feeder = s.feeder := rfl
@[simp] theorem State.setHnd_sect (s : State) (v : Handler) : (s.setHnd v).sect = s.sect := rfl
@[simp] theorem State.setHnd_pool (s : State) (v : Handler) : (s.setHnd v).pool = s.pool := rfl
@[simp] theorem State.setHnd_kind (s : State) (v : Handler) : (s.setHnd v).kind = s.kind := rfl
@[simp] theorem State.setHnd_incident (s : State) (v : Handler) : (s.setHnd v).incident = s.incident := rfl
@[simp] theorem State.setHnd_incNotice (s : State) (v : Handler) : (s.setHnd v).incNotice = s.incNotice := rfl
@[simp] theorem State.setHnd_interlocked (s : State) (v : Handler) : (s.setHnd v).interlocked = s.interlocked := rfl
@[simp] theorem State.setHnd_fraction (s : State) (v : Handler) : (s.setHnd v).fraction = s.fraction := rfl
@[simp] theorem State.setHnd_platHeld (s : State) (v : Handler) : (s.setHnd v).platHeld = s.platHeld := rfl
@[simp] theorem State.setHnd_platHeadway (s : State) (v : Handler) : (s.setHnd v).platHeadway = s.platHeadway := rfl
@[simp] theorem State.setHnd_station (s : State) (v : Handler) : (s.setHnd v).station = s.station := rfl
@[simp] theorem State.setHnd_template (s : State) (v : Handler) : (s.setHnd v).template = s.template := rfl
@[simp] theorem State.setHnd_zone (s : State) (v : Handler) : (s.setHnd v).zone = s.zone := rfl
@[simp] theorem State.setHnd_arming (s : State) (v : Handler) : (s.setHnd v).arming = s.arming := rfl
@[simp] theorem State.setHnd_port (s : State) (v : Handler) : (s.setHnd v).port = s.port := by funext p; cases p <;> rfl

@[simp] theorem State.setCls_pending (s : State) (v : Classifier) : (s.setCls v).pending = s.pending := rfl
@[simp] theorem State.setCls_resetHeld (s : State) (v : Classifier) : (s.setCls v).resetHeld = s.resetHeld := rfl
@[simp] theorem State.setCls_event (s : State) (v : Classifier) : (s.setCls v).event = s.event := rfl
@[simp] theorem State.setCls_hnd (s : State) (v : Classifier) : (s.setCls v).hnd = s.hnd := rfl
@[simp] theorem State.setCls_cls (s : State) (v : Classifier) : (s.setCls v).cls = v := rfl
@[simp] theorem State.setCls_tim (s : State) (v : Classifier) : (s.setCls v).tim = s.tim := rfl
@[simp] theorem State.setCls_reg (s : State) (v : Classifier) : (s.setCls v).reg = s.reg := rfl
@[simp] theorem State.setCls_pow (s : State) (v : Classifier) : (s.setCls v).pow = s.pow := rfl
@[simp] theorem State.setCls_inc (s : State) (v : Classifier) : (s.setCls v).inc = s.inc := rfl
@[simp] theorem State.setCls_com (s : State) (v : Classifier) : (s.setCls v).com = s.com := rfl
@[simp] theorem State.setCls_fieldPort (s : State) (v : Classifier) : (s.setCls v).fieldPort = s.fieldPort := rfl
@[simp] theorem State.setCls_consolePort (s : State) (v : Classifier) : (s.setCls v).consolePort = s.consolePort := rfl
@[simp] theorem State.setCls_supervision (s : State) (v : Classifier) : (s.setCls v).supervision = s.supervision := rfl
@[simp] theorem State.setCls_slot (s : State) (v : Classifier) : (s.setCls v).slot = s.slot := rfl
@[simp] theorem State.setCls_trainNotice (s : State) (v : Classifier) : (s.setCls v).trainNotice = s.trainNotice := rfl
@[simp] theorem State.setCls_plat (s : State) (v : Classifier) : (s.setCls v).plat = s.plat := rfl
@[simp] theorem State.setCls_feeder (s : State) (v : Classifier) : (s.setCls v).feeder = s.feeder := rfl
@[simp] theorem State.setCls_sect (s : State) (v : Classifier) : (s.setCls v).sect = s.sect := rfl
@[simp] theorem State.setCls_pool (s : State) (v : Classifier) : (s.setCls v).pool = s.pool := rfl
@[simp] theorem State.setCls_kind (s : State) (v : Classifier) : (s.setCls v).kind = s.kind := rfl
@[simp] theorem State.setCls_incident (s : State) (v : Classifier) : (s.setCls v).incident = s.incident := rfl
@[simp] theorem State.setCls_incNotice (s : State) (v : Classifier) : (s.setCls v).incNotice = s.incNotice := rfl
@[simp] theorem State.setCls_interlocked (s : State) (v : Classifier) : (s.setCls v).interlocked = s.interlocked := rfl
@[simp] theorem State.setCls_fraction (s : State) (v : Classifier) : (s.setCls v).fraction = s.fraction := rfl
@[simp] theorem State.setCls_platHeld (s : State) (v : Classifier) : (s.setCls v).platHeld = s.platHeld := rfl
@[simp] theorem State.setCls_platHeadway (s : State) (v : Classifier) : (s.setCls v).platHeadway = s.platHeadway := rfl
@[simp] theorem State.setCls_station (s : State) (v : Classifier) : (s.setCls v).station = s.station := rfl
@[simp] theorem State.setCls_template (s : State) (v : Classifier) : (s.setCls v).template = s.template := rfl
@[simp] theorem State.setCls_zone (s : State) (v : Classifier) : (s.setCls v).zone = s.zone := rfl
@[simp] theorem State.setCls_arming (s : State) (v : Classifier) : (s.setCls v).arming = s.arming := rfl
@[simp] theorem State.setCls_port (s : State) (v : Classifier) : (s.setCls v).port = s.port := by funext p; cases p <;> rfl

@[simp] theorem State.setTim_pending (s : State) (v : Timing) : (s.setTim v).pending = s.pending := rfl
@[simp] theorem State.setTim_resetHeld (s : State) (v : Timing) : (s.setTim v).resetHeld = s.resetHeld := rfl
@[simp] theorem State.setTim_event (s : State) (v : Timing) : (s.setTim v).event = s.event := rfl
@[simp] theorem State.setTim_hnd (s : State) (v : Timing) : (s.setTim v).hnd = s.hnd := rfl
@[simp] theorem State.setTim_cls (s : State) (v : Timing) : (s.setTim v).cls = s.cls := rfl
@[simp] theorem State.setTim_tim (s : State) (v : Timing) : (s.setTim v).tim = v := rfl
@[simp] theorem State.setTim_reg (s : State) (v : Timing) : (s.setTim v).reg = s.reg := rfl
@[simp] theorem State.setTim_pow (s : State) (v : Timing) : (s.setTim v).pow = s.pow := rfl
@[simp] theorem State.setTim_inc (s : State) (v : Timing) : (s.setTim v).inc = s.inc := rfl
@[simp] theorem State.setTim_com (s : State) (v : Timing) : (s.setTim v).com = s.com := rfl
@[simp] theorem State.setTim_fieldPort (s : State) (v : Timing) : (s.setTim v).fieldPort = s.fieldPort := rfl
@[simp] theorem State.setTim_consolePort (s : State) (v : Timing) : (s.setTim v).consolePort = s.consolePort := rfl
@[simp] theorem State.setTim_unit (s : State) (v : Timing) : (s.setTim v).unit = s.unit := rfl
@[simp] theorem State.setTim_console (s : State) (v : Timing) : (s.setTim v).console = s.console := rfl
@[simp] theorem State.setTim_slot (s : State) (v : Timing) : (s.setTim v).slot = s.slot := rfl
@[simp] theorem State.setTim_trainNotice (s : State) (v : Timing) : (s.setTim v).trainNotice = s.trainNotice := rfl
@[simp] theorem State.setTim_plat (s : State) (v : Timing) : (s.setTim v).plat = s.plat := rfl
@[simp] theorem State.setTim_feeder (s : State) (v : Timing) : (s.setTim v).feeder = s.feeder := rfl
@[simp] theorem State.setTim_sect (s : State) (v : Timing) : (s.setTim v).sect = s.sect := rfl
@[simp] theorem State.setTim_pool (s : State) (v : Timing) : (s.setTim v).pool = s.pool := rfl
@[simp] theorem State.setTim_kind (s : State) (v : Timing) : (s.setTim v).kind = s.kind := rfl
@[simp] theorem State.setTim_incident (s : State) (v : Timing) : (s.setTim v).incident = s.incident := rfl
@[simp] theorem State.setTim_incNotice (s : State) (v : Timing) : (s.setTim v).incNotice = s.incNotice := rfl
@[simp] theorem State.setTim_interlocked (s : State) (v : Timing) : (s.setTim v).interlocked = s.interlocked := rfl
@[simp] theorem State.setTim_fraction (s : State) (v : Timing) : (s.setTim v).fraction = s.fraction := rfl
@[simp] theorem State.setTim_platHeld (s : State) (v : Timing) : (s.setTim v).platHeld = s.platHeld := rfl
@[simp] theorem State.setTim_platHeadway (s : State) (v : Timing) : (s.setTim v).platHeadway = s.platHeadway := rfl
@[simp] theorem State.setTim_station (s : State) (v : Timing) : (s.setTim v).station = s.station := rfl
@[simp] theorem State.setTim_template (s : State) (v : Timing) : (s.setTim v).template = s.template := rfl
@[simp] theorem State.setTim_zone (s : State) (v : Timing) : (s.setTim v).zone = s.zone := rfl
@[simp] theorem State.setTim_arming (s : State) (v : Timing) : (s.setTim v).arming = s.arming := rfl
@[simp] theorem State.setTim_port (s : State) (v : Timing) : (s.setTim v).port = s.port := by funext p; cases p <;> rfl

@[simp] theorem State.setReg_pending (s : State) (v : Regulator) : (s.setReg v).pending = s.pending := rfl
@[simp] theorem State.setReg_resetHeld (s : State) (v : Regulator) : (s.setReg v).resetHeld = s.resetHeld := rfl
@[simp] theorem State.setReg_event (s : State) (v : Regulator) : (s.setReg v).event = s.event := rfl
@[simp] theorem State.setReg_hnd (s : State) (v : Regulator) : (s.setReg v).hnd = s.hnd := rfl
@[simp] theorem State.setReg_cls (s : State) (v : Regulator) : (s.setReg v).cls = s.cls := rfl
@[simp] theorem State.setReg_tim (s : State) (v : Regulator) : (s.setReg v).tim = s.tim := rfl
@[simp] theorem State.setReg_reg (s : State) (v : Regulator) : (s.setReg v).reg = v := rfl
@[simp] theorem State.setReg_pow (s : State) (v : Regulator) : (s.setReg v).pow = s.pow := rfl
@[simp] theorem State.setReg_inc (s : State) (v : Regulator) : (s.setReg v).inc = s.inc := rfl
@[simp] theorem State.setReg_com (s : State) (v : Regulator) : (s.setReg v).com = s.com := rfl
@[simp] theorem State.setReg_fieldPort (s : State) (v : Regulator) : (s.setReg v).fieldPort = s.fieldPort := rfl
@[simp] theorem State.setReg_consolePort (s : State) (v : Regulator) : (s.setReg v).consolePort = s.consolePort := rfl
@[simp] theorem State.setReg_unit (s : State) (v : Regulator) : (s.setReg v).unit = s.unit := rfl
@[simp] theorem State.setReg_console (s : State) (v : Regulator) : (s.setReg v).console = s.console := rfl
@[simp] theorem State.setReg_supervision (s : State) (v : Regulator) : (s.setReg v).supervision = s.supervision := rfl
@[simp] theorem State.setReg_feeder (s : State) (v : Regulator) : (s.setReg v).feeder = s.feeder := rfl
@[simp] theorem State.setReg_sect (s : State) (v : Regulator) : (s.setReg v).sect = s.sect := rfl
@[simp] theorem State.setReg_pool (s : State) (v : Regulator) : (s.setReg v).pool = s.pool := rfl
@[simp] theorem State.setReg_kind (s : State) (v : Regulator) : (s.setReg v).kind = s.kind := rfl
@[simp] theorem State.setReg_incident (s : State) (v : Regulator) : (s.setReg v).incident = s.incident := rfl
@[simp] theorem State.setReg_incNotice (s : State) (v : Regulator) : (s.setReg v).incNotice = s.incNotice := rfl
@[simp] theorem State.setReg_interlocked (s : State) (v : Regulator) : (s.setReg v).interlocked = s.interlocked := rfl
@[simp] theorem State.setReg_fraction (s : State) (v : Regulator) : (s.setReg v).fraction = s.fraction := rfl
@[simp] theorem State.setReg_platHeld (s : State) (v : Regulator) : (s.setReg v).platHeld = s.platHeld := rfl
@[simp] theorem State.setReg_platHeadway (s : State) (v : Regulator) : (s.setReg v).platHeadway = s.platHeadway := rfl
@[simp] theorem State.setReg_station (s : State) (v : Regulator) : (s.setReg v).station = s.station := rfl
@[simp] theorem State.setReg_template (s : State) (v : Regulator) : (s.setReg v).template = s.template := rfl
@[simp] theorem State.setReg_zone (s : State) (v : Regulator) : (s.setReg v).zone = s.zone := rfl
@[simp] theorem State.setReg_arming (s : State) (v : Regulator) : (s.setReg v).arming = s.arming := rfl
@[simp] theorem State.setReg_port (s : State) (v : Regulator) : (s.setReg v).port = s.port := by funext p; cases p <;> rfl

@[simp] theorem State.setPow_pending (s : State) (v : Power) : (s.setPow v).pending = s.pending := rfl
@[simp] theorem State.setPow_resetHeld (s : State) (v : Power) : (s.setPow v).resetHeld = s.resetHeld := rfl
@[simp] theorem State.setPow_event (s : State) (v : Power) : (s.setPow v).event = s.event := rfl
@[simp] theorem State.setPow_hnd (s : State) (v : Power) : (s.setPow v).hnd = s.hnd := rfl
@[simp] theorem State.setPow_cls (s : State) (v : Power) : (s.setPow v).cls = s.cls := rfl
@[simp] theorem State.setPow_tim (s : State) (v : Power) : (s.setPow v).tim = s.tim := rfl
@[simp] theorem State.setPow_reg (s : State) (v : Power) : (s.setPow v).reg = s.reg := rfl
@[simp] theorem State.setPow_pow (s : State) (v : Power) : (s.setPow v).pow = v := rfl
@[simp] theorem State.setPow_inc (s : State) (v : Power) : (s.setPow v).inc = s.inc := rfl
@[simp] theorem State.setPow_com (s : State) (v : Power) : (s.setPow v).com = s.com := rfl
@[simp] theorem State.setPow_fieldPort (s : State) (v : Power) : (s.setPow v).fieldPort = s.fieldPort := rfl
@[simp] theorem State.setPow_consolePort (s : State) (v : Power) : (s.setPow v).consolePort = s.consolePort := rfl
@[simp] theorem State.setPow_unit (s : State) (v : Power) : (s.setPow v).unit = s.unit := rfl
@[simp] theorem State.setPow_console (s : State) (v : Power) : (s.setPow v).console = s.console := rfl
@[simp] theorem State.setPow_supervision (s : State) (v : Power) : (s.setPow v).supervision = s.supervision := rfl
@[simp] theorem State.setPow_slot (s : State) (v : Power) : (s.setPow v).slot = s.slot := rfl
@[simp] theorem State.setPow_trainNotice (s : State) (v : Power) : (s.setPow v).trainNotice = s.trainNotice := rfl
@[simp] theorem State.setPow_plat (s : State) (v : Power) : (s.setPow v).plat = s.plat := rfl
@[simp] theorem State.setPow_kind (s : State) (v : Power) : (s.setPow v).kind = s.kind := rfl
@[simp] theorem State.setPow_incident (s : State) (v : Power) : (s.setPow v).incident = s.incident := rfl
@[simp] theorem State.setPow_incNotice (s : State) (v : Power) : (s.setPow v).incNotice = s.incNotice := rfl
@[simp] theorem State.setPow_interlocked (s : State) (v : Power) : (s.setPow v).interlocked = s.interlocked := rfl
@[simp] theorem State.setPow_fraction (s : State) (v : Power) : (s.setPow v).fraction = s.fraction := rfl
@[simp] theorem State.setPow_platHeld (s : State) (v : Power) : (s.setPow v).platHeld = s.platHeld := rfl
@[simp] theorem State.setPow_platHeadway (s : State) (v : Power) : (s.setPow v).platHeadway = s.platHeadway := rfl
@[simp] theorem State.setPow_station (s : State) (v : Power) : (s.setPow v).station = s.station := rfl
@[simp] theorem State.setPow_template (s : State) (v : Power) : (s.setPow v).template = s.template := rfl
@[simp] theorem State.setPow_zone (s : State) (v : Power) : (s.setPow v).zone = s.zone := rfl
@[simp] theorem State.setPow_arming (s : State) (v : Power) : (s.setPow v).arming = s.arming := rfl
@[simp] theorem State.setPow_port (s : State) (v : Power) : (s.setPow v).port = s.port := by funext p; cases p <;> rfl

@[simp] theorem State.setInc_pending (s : State) (v : IncidentUnit) : (s.setInc v).pending = s.pending := rfl
@[simp] theorem State.setInc_resetHeld (s : State) (v : IncidentUnit) : (s.setInc v).resetHeld = s.resetHeld := rfl
@[simp] theorem State.setInc_event (s : State) (v : IncidentUnit) : (s.setInc v).event = s.event := rfl
@[simp] theorem State.setInc_hnd (s : State) (v : IncidentUnit) : (s.setInc v).hnd = s.hnd := rfl
@[simp] theorem State.setInc_cls (s : State) (v : IncidentUnit) : (s.setInc v).cls = s.cls := rfl
@[simp] theorem State.setInc_tim (s : State) (v : IncidentUnit) : (s.setInc v).tim = s.tim := rfl
@[simp] theorem State.setInc_reg (s : State) (v : IncidentUnit) : (s.setInc v).reg = s.reg := rfl
@[simp] theorem State.setInc_pow (s : State) (v : IncidentUnit) : (s.setInc v).pow = s.pow := rfl
@[simp] theorem State.setInc_inc (s : State) (v : IncidentUnit) : (s.setInc v).inc = v := rfl
@[simp] theorem State.setInc_com (s : State) (v : IncidentUnit) : (s.setInc v).com = s.com := rfl
@[simp] theorem State.setInc_fieldPort (s : State) (v : IncidentUnit) : (s.setInc v).fieldPort = s.fieldPort := rfl
@[simp] theorem State.setInc_consolePort (s : State) (v : IncidentUnit) : (s.setInc v).consolePort = s.consolePort := rfl
@[simp] theorem State.setInc_unit (s : State) (v : IncidentUnit) : (s.setInc v).unit = s.unit := rfl
@[simp] theorem State.setInc_console (s : State) (v : IncidentUnit) : (s.setInc v).console = s.console := rfl
@[simp] theorem State.setInc_supervision (s : State) (v : IncidentUnit) : (s.setInc v).supervision = s.supervision := rfl
@[simp] theorem State.setInc_slot (s : State) (v : IncidentUnit) : (s.setInc v).slot = s.slot := rfl
@[simp] theorem State.setInc_trainNotice (s : State) (v : IncidentUnit) : (s.setInc v).trainNotice = s.trainNotice := rfl
@[simp] theorem State.setInc_plat (s : State) (v : IncidentUnit) : (s.setInc v).plat = s.plat := rfl
@[simp] theorem State.setInc_feeder (s : State) (v : IncidentUnit) : (s.setInc v).feeder = s.feeder := rfl
@[simp] theorem State.setInc_sect (s : State) (v : IncidentUnit) : (s.setInc v).sect = s.sect := rfl
@[simp] theorem State.setInc_pool (s : State) (v : IncidentUnit) : (s.setInc v).pool = s.pool := rfl
@[simp] theorem State.setInc_station (s : State) (v : IncidentUnit) : (s.setInc v).station = s.station := rfl
@[simp] theorem State.setInc_template (s : State) (v : IncidentUnit) : (s.setInc v).template = s.template := rfl
@[simp] theorem State.setInc_zone (s : State) (v : IncidentUnit) : (s.setInc v).zone = s.zone := rfl
@[simp] theorem State.setInc_arming (s : State) (v : IncidentUnit) : (s.setInc v).arming = s.arming := rfl
@[simp] theorem State.setInc_port (s : State) (v : IncidentUnit) : (s.setInc v).port = s.port := by funext p; cases p <;> rfl

@[simp] theorem State.setCom_pending (s : State) (v : Composer) : (s.setCom v).pending = s.pending := rfl
@[simp] theorem State.setCom_resetHeld (s : State) (v : Composer) : (s.setCom v).resetHeld = s.resetHeld := rfl
@[simp] theorem State.setCom_event (s : State) (v : Composer) : (s.setCom v).event = s.event := rfl
@[simp] theorem State.setCom_hnd (s : State) (v : Composer) : (s.setCom v).hnd = s.hnd := rfl
@[simp] theorem State.setCom_cls (s : State) (v : Composer) : (s.setCom v).cls = s.cls := rfl
@[simp] theorem State.setCom_tim (s : State) (v : Composer) : (s.setCom v).tim = s.tim := rfl
@[simp] theorem State.setCom_reg (s : State) (v : Composer) : (s.setCom v).reg = s.reg := rfl
@[simp] theorem State.setCom_pow (s : State) (v : Composer) : (s.setCom v).pow = s.pow := rfl
@[simp] theorem State.setCom_inc (s : State) (v : Composer) : (s.setCom v).inc = s.inc := rfl
@[simp] theorem State.setCom_com (s : State) (v : Composer) : (s.setCom v).com = v := rfl
@[simp] theorem State.setCom_fieldPort (s : State) (v : Composer) : (s.setCom v).fieldPort = s.fieldPort := rfl
@[simp] theorem State.setCom_consolePort (s : State) (v : Composer) : (s.setCom v).consolePort = s.consolePort := rfl
@[simp] theorem State.setCom_unit (s : State) (v : Composer) : (s.setCom v).unit = s.unit := rfl
@[simp] theorem State.setCom_console (s : State) (v : Composer) : (s.setCom v).console = s.console := rfl
@[simp] theorem State.setCom_supervision (s : State) (v : Composer) : (s.setCom v).supervision = s.supervision := rfl
@[simp] theorem State.setCom_slot (s : State) (v : Composer) : (s.setCom v).slot = s.slot := rfl
@[simp] theorem State.setCom_trainNotice (s : State) (v : Composer) : (s.setCom v).trainNotice = s.trainNotice := rfl
@[simp] theorem State.setCom_plat (s : State) (v : Composer) : (s.setCom v).plat = s.plat := rfl
@[simp] theorem State.setCom_feeder (s : State) (v : Composer) : (s.setCom v).feeder = s.feeder := rfl
@[simp] theorem State.setCom_sect (s : State) (v : Composer) : (s.setCom v).sect = s.sect := rfl
@[simp] theorem State.setCom_pool (s : State) (v : Composer) : (s.setCom v).pool = s.pool := rfl
@[simp] theorem State.setCom_kind (s : State) (v : Composer) : (s.setCom v).kind = s.kind := rfl
@[simp] theorem State.setCom_incident (s : State) (v : Composer) : (s.setCom v).incident = s.incident := rfl
@[simp] theorem State.setCom_incNotice (s : State) (v : Composer) : (s.setCom v).incNotice = s.incNotice := rfl
@[simp] theorem State.setCom_interlocked (s : State) (v : Composer) : (s.setCom v).interlocked = s.interlocked := rfl
@[simp] theorem State.setCom_fraction (s : State) (v : Composer) : (s.setCom v).fraction = s.fraction := rfl
@[simp] theorem State.setCom_platHeld (s : State) (v : Composer) : (s.setCom v).platHeld = s.platHeld := rfl
@[simp] theorem State.setCom_platHeadway (s : State) (v : Composer) : (s.setCom v).platHeadway = s.platHeadway := rfl
@[simp] theorem State.setCom_port (s : State) (v : Composer) : (s.setCom v).port = s.port := by funext p; cases p <;> rfl

/-! ## Readers of a block that is set -/

@[simp] theorem State.now_eq (s : State) : s.now = s.tim.lineTime := rfl
@[simp] theorem State.running_eq (s : State) : s.running = decide (s.hnd.op = .running) := rfl
@[simp] theorem State.setCls_unit (s : State) (v : Classifier) : (s.setCls v).unit = Tab.get {} v.units := rfl
@[simp] theorem State.get_cls_units (s : State) : Tab.get {} s.cls.units = s.unit := rfl
@[simp] theorem State.setCls_console (s : State) (v : Classifier) : (s.setCls v).console = Tab.get none v.consoles := rfl
@[simp] theorem State.get_cls_consoles (s : State) : Tab.get none s.cls.consoles = s.console := rfl
@[simp] theorem State.setTim_supervision (s : State) (v : Timing) : (s.setTim v).supervision = Tab.get {} v.supervision := rfl
@[simp] theorem State.get_tim_supervision (s : State) : Tab.get {} s.tim.supervision = s.supervision := rfl
@[simp] theorem State.setReg_slot (s : State) (v : Regulator) : (s.setReg v).slot = Tab.get {} v.trains := rfl
@[simp] theorem State.get_reg_trains (s : State) : Tab.get {} s.reg.trains = s.slot := rfl
@[simp] theorem State.setReg_trainNotice (s : State) (v : Regulator) : (s.setReg v).trainNotice = Tab.get none v.notices := rfl
@[simp] theorem State.get_reg_notices (s : State) : Tab.get none s.reg.notices = s.trainNotice := rfl
@[simp] theorem State.setReg_plat (s : State) (v : Regulator) : (s.setReg v).plat = Tab.get {} v.platforms := rfl
@[simp] theorem State.get_reg_platforms (s : State) : Tab.get {} s.reg.platforms = s.plat := rfl
@[simp] theorem State.setPow_feeder (s : State) (v : Power) : (s.setPow v).feeder = Tab.get {} v.feeders := rfl
@[simp] theorem State.get_pow_feeders (s : State) : Tab.get {} s.pow.feeders = s.feeder := rfl
@[simp] theorem State.setPow_sect (s : State) (v : Power) : (s.setPow v).sect = Tab.get {} v.sections := rfl
@[simp] theorem State.get_pow_sections (s : State) : Tab.get {} s.pow.sections = s.sect := rfl
@[simp] theorem State.setPow_pool (s : State) (v : Power) : (s.setPow v).pool = Tab.get .free v.pool := rfl
@[simp] theorem State.get_pow_pool (s : State) : Tab.get .free s.pow.pool = s.pool := rfl
@[simp] theorem State.setInc_kind (s : State) (v : IncidentUnit) : (s.setInc v).kind = Tab.get {} v.kinds := rfl
@[simp] theorem State.get_inc_kinds (s : State) : Tab.get {} s.inc.kinds = s.kind := rfl
@[simp] theorem State.setInc_incident (s : State) (v : IncidentUnit) : (s.setInc v).incident = Tab.get none v.entries := rfl
@[simp] theorem State.get_inc_entries (s : State) : Tab.get none s.inc.entries = s.incident := rfl
@[simp] theorem State.setInc_incNotice (s : State) (v : IncidentUnit) : (s.setInc v).incNotice = Tab.get none v.notices := rfl
@[simp] theorem State.get_inc_notices (s : State) : Tab.get none s.inc.notices = s.incNotice := rfl
@[simp] theorem State.setInc_interlocked (s : State) (v : IncidentUnit) : (s.setInc v).interlocked = Tab.get false v.interlock := rfl
@[simp] theorem State.get_inc_interlock (s : State) : Tab.get false s.inc.interlock = s.interlocked := rfl
@[simp] theorem State.setInc_fraction (s : State) (v : IncidentUnit) : (s.setInc v).fraction = Tab.get 8 v.fraction := rfl
@[simp] theorem State.get_inc_fraction (s : State) : Tab.get 8 s.inc.fraction = s.fraction := rfl
@[simp] theorem State.setInc_platHeld (s : State) (v : IncidentUnit) : (s.setInc v).platHeld = Tab.get false v.held := rfl
@[simp] theorem State.get_inc_held (s : State) : Tab.get false s.inc.held = s.platHeld := rfl
@[simp] theorem State.setInc_platHeadway (s : State) (v : IncidentUnit) : (s.setInc v).platHeadway = Tab.get false v.headway := rfl
@[simp] theorem State.get_inc_headway (s : State) : Tab.get false s.inc.headway = s.platHeadway := rfl
@[simp] theorem State.setCom_station (s : State) (v : Composer) : (s.setCom v).station = Tab.get none v.stations := rfl
@[simp] theorem State.get_com_stations (s : State) : Tab.get none s.com.stations = s.station := rfl
@[simp] theorem State.setCom_template (s : State) (v : Composer) : (s.setCom v).template = Tab.get none v.templates := rfl
@[simp] theorem State.get_com_templates (s : State) : Tab.get none s.com.templates = s.template := rfl
@[simp] theorem State.setCom_zone (s : State) (v : Composer) : (s.setCom v).zone = Tab.get {} v.zones := rfl
@[simp] theorem State.get_com_zones (s : State) : Tab.get {} s.com.zones = s.zone := rfl
@[simp] theorem State.setCom_arming (s : State) (v : Composer) : (s.setCom v).arming = Tab.get {} v.armings := rfl
@[simp] theorem State.get_com_armings (s : State) : Tab.get {} s.com.armings = s.arming := rfl

/-! ## Ports -/

@[simp] theorem State.setPort_at_field (s : State) (v : PortState) : s.setPort .field v = { s with fieldPort := v } := rfl
@[simp] theorem State.setPort_at_console (s : State) (v : PortState) : s.setPort .console v = { s with consolePort := v } := rfl
@[simp] theorem State.port_field (s : State) : s.port .field = s.fieldPort := rfl
@[simp] theorem State.port_console (s : State) : s.port .console = s.consolePort := rfl
@[simp] theorem State.port_setPort_self (s : State) (p : Port) (v : PortState) : (s.setPort p v).port p = v := by cases p <;> rfl
@[simp] theorem State.setPort_pending (s : State) (p : Port) (v : PortState) : (s.setPort p v).pending = s.pending := by cases p <;> rfl
@[simp] theorem State.setPort_resetHeld (s : State) (p : Port) (v : PortState) : (s.setPort p v).resetHeld = s.resetHeld := by cases p <;> rfl
@[simp] theorem State.setPort_event (s : State) (p : Port) (v : PortState) : (s.setPort p v).event = s.event := by cases p <;> rfl
@[simp] theorem State.setPort_hnd (s : State) (p : Port) (v : PortState) : (s.setPort p v).hnd = s.hnd := by cases p <;> rfl
@[simp] theorem State.setPort_cls (s : State) (p : Port) (v : PortState) : (s.setPort p v).cls = s.cls := by cases p <;> rfl
@[simp] theorem State.setPort_tim (s : State) (p : Port) (v : PortState) : (s.setPort p v).tim = s.tim := by cases p <;> rfl
@[simp] theorem State.setPort_reg (s : State) (p : Port) (v : PortState) : (s.setPort p v).reg = s.reg := by cases p <;> rfl
@[simp] theorem State.setPort_pow (s : State) (p : Port) (v : PortState) : (s.setPort p v).pow = s.pow := by cases p <;> rfl
@[simp] theorem State.setPort_inc (s : State) (p : Port) (v : PortState) : (s.setPort p v).inc = s.inc := by cases p <;> rfl
@[simp] theorem State.setPort_com (s : State) (p : Port) (v : PortState) : (s.setPort p v).com = s.com := by cases p <;> rfl
@[simp] theorem State.setPort_unit (s : State) (p : Port) (v : PortState) : (s.setPort p v).unit = s.unit := by cases p <;> rfl
@[simp] theorem State.setPort_console (s : State) (p : Port) (v : PortState) : (s.setPort p v).console = s.console := by cases p <;> rfl
@[simp] theorem State.setPort_supervision (s : State) (p : Port) (v : PortState) : (s.setPort p v).supervision = s.supervision := by cases p <;> rfl
@[simp] theorem State.setPort_slot (s : State) (p : Port) (v : PortState) : (s.setPort p v).slot = s.slot := by cases p <;> rfl
@[simp] theorem State.setPort_trainNotice (s : State) (p : Port) (v : PortState) : (s.setPort p v).trainNotice = s.trainNotice := by cases p <;> rfl
@[simp] theorem State.setPort_plat (s : State) (p : Port) (v : PortState) : (s.setPort p v).plat = s.plat := by cases p <;> rfl
@[simp] theorem State.setPort_feeder (s : State) (p : Port) (v : PortState) : (s.setPort p v).feeder = s.feeder := by cases p <;> rfl
@[simp] theorem State.setPort_sect (s : State) (p : Port) (v : PortState) : (s.setPort p v).sect = s.sect := by cases p <;> rfl
@[simp] theorem State.setPort_pool (s : State) (p : Port) (v : PortState) : (s.setPort p v).pool = s.pool := by cases p <;> rfl
@[simp] theorem State.setPort_kind (s : State) (p : Port) (v : PortState) : (s.setPort p v).kind = s.kind := by cases p <;> rfl
@[simp] theorem State.setPort_incident (s : State) (p : Port) (v : PortState) : (s.setPort p v).incident = s.incident := by cases p <;> rfl
@[simp] theorem State.setPort_incNotice (s : State) (p : Port) (v : PortState) : (s.setPort p v).incNotice = s.incNotice := by cases p <;> rfl
@[simp] theorem State.setPort_interlocked (s : State) (p : Port) (v : PortState) : (s.setPort p v).interlocked = s.interlocked := by cases p <;> rfl
@[simp] theorem State.setPort_fraction (s : State) (p : Port) (v : PortState) : (s.setPort p v).fraction = s.fraction := by cases p <;> rfl
@[simp] theorem State.setPort_platHeld (s : State) (p : Port) (v : PortState) : (s.setPort p v).platHeld = s.platHeld := by cases p <;> rfl
@[simp] theorem State.setPort_platHeadway (s : State) (p : Port) (v : PortState) : (s.setPort p v).platHeadway = s.platHeadway := by cases p <;> rfl
@[simp] theorem State.setPort_station (s : State) (p : Port) (v : PortState) : (s.setPort p v).station = s.station := by cases p <;> rfl
@[simp] theorem State.setPort_template (s : State) (p : Port) (v : PortState) : (s.setPort p v).template = s.template := by cases p <;> rfl
@[simp] theorem State.setPort_zone (s : State) (p : Port) (v : PortState) : (s.setPort p v).zone = s.zone := by cases p <;> rfl
@[simp] theorem State.setPort_arming (s : State) (p : Port) (v : PortState) : (s.setPort p v).arming = s.arming := by cases p <;> rfl

/-! ## Updates written as records: ports, event number, commands -/

@[simp] theorem State.with_fieldPort_unit (s : State) (v : PortState) : State.unit { s with fieldPort := v } = s.unit := rfl
@[simp] theorem State.with_fieldPort_console (s : State) (v : PortState) : State.console { s with fieldPort := v } = s.console := rfl
@[simp] theorem State.with_fieldPort_supervision (s : State) (v : PortState) : State.supervision { s with fieldPort := v } = s.supervision := rfl
@[simp] theorem State.with_fieldPort_slot (s : State) (v : PortState) : State.slot { s with fieldPort := v } = s.slot := rfl
@[simp] theorem State.with_fieldPort_trainNotice (s : State) (v : PortState) : State.trainNotice { s with fieldPort := v } = s.trainNotice := rfl
@[simp] theorem State.with_fieldPort_plat (s : State) (v : PortState) : State.plat { s with fieldPort := v } = s.plat := rfl
@[simp] theorem State.with_fieldPort_feeder (s : State) (v : PortState) : State.feeder { s with fieldPort := v } = s.feeder := rfl
@[simp] theorem State.with_fieldPort_sect (s : State) (v : PortState) : State.sect { s with fieldPort := v } = s.sect := rfl
@[simp] theorem State.with_fieldPort_pool (s : State) (v : PortState) : State.pool { s with fieldPort := v } = s.pool := rfl
@[simp] theorem State.with_fieldPort_kind (s : State) (v : PortState) : State.kind { s with fieldPort := v } = s.kind := rfl
@[simp] theorem State.with_fieldPort_incident (s : State) (v : PortState) : State.incident { s with fieldPort := v } = s.incident := rfl
@[simp] theorem State.with_fieldPort_incNotice (s : State) (v : PortState) : State.incNotice { s with fieldPort := v } = s.incNotice := rfl
@[simp] theorem State.with_fieldPort_interlocked (s : State) (v : PortState) : State.interlocked { s with fieldPort := v } = s.interlocked := rfl
@[simp] theorem State.with_fieldPort_fraction (s : State) (v : PortState) : State.fraction { s with fieldPort := v } = s.fraction := rfl
@[simp] theorem State.with_fieldPort_platHeld (s : State) (v : PortState) : State.platHeld { s with fieldPort := v } = s.platHeld := rfl
@[simp] theorem State.with_fieldPort_platHeadway (s : State) (v : PortState) : State.platHeadway { s with fieldPort := v } = s.platHeadway := rfl
@[simp] theorem State.with_fieldPort_station (s : State) (v : PortState) : State.station { s with fieldPort := v } = s.station := rfl
@[simp] theorem State.with_fieldPort_template (s : State) (v : PortState) : State.template { s with fieldPort := v } = s.template := rfl
@[simp] theorem State.with_fieldPort_zone (s : State) (v : PortState) : State.zone { s with fieldPort := v } = s.zone := rfl
@[simp] theorem State.with_fieldPort_arming (s : State) (v : PortState) : State.arming { s with fieldPort := v } = s.arming := rfl
@[simp] theorem State.with_consolePort_unit (s : State) (v : PortState) : State.unit { s with consolePort := v } = s.unit := rfl
@[simp] theorem State.with_consolePort_console (s : State) (v : PortState) : State.console { s with consolePort := v } = s.console := rfl
@[simp] theorem State.with_consolePort_supervision (s : State) (v : PortState) : State.supervision { s with consolePort := v } = s.supervision := rfl
@[simp] theorem State.with_consolePort_slot (s : State) (v : PortState) : State.slot { s with consolePort := v } = s.slot := rfl
@[simp] theorem State.with_consolePort_trainNotice (s : State) (v : PortState) : State.trainNotice { s with consolePort := v } = s.trainNotice := rfl
@[simp] theorem State.with_consolePort_plat (s : State) (v : PortState) : State.plat { s with consolePort := v } = s.plat := rfl
@[simp] theorem State.with_consolePort_feeder (s : State) (v : PortState) : State.feeder { s with consolePort := v } = s.feeder := rfl
@[simp] theorem State.with_consolePort_sect (s : State) (v : PortState) : State.sect { s with consolePort := v } = s.sect := rfl
@[simp] theorem State.with_consolePort_pool (s : State) (v : PortState) : State.pool { s with consolePort := v } = s.pool := rfl
@[simp] theorem State.with_consolePort_kind (s : State) (v : PortState) : State.kind { s with consolePort := v } = s.kind := rfl
@[simp] theorem State.with_consolePort_incident (s : State) (v : PortState) : State.incident { s with consolePort := v } = s.incident := rfl
@[simp] theorem State.with_consolePort_incNotice (s : State) (v : PortState) : State.incNotice { s with consolePort := v } = s.incNotice := rfl
@[simp] theorem State.with_consolePort_interlocked (s : State) (v : PortState) : State.interlocked { s with consolePort := v } = s.interlocked := rfl
@[simp] theorem State.with_consolePort_fraction (s : State) (v : PortState) : State.fraction { s with consolePort := v } = s.fraction := rfl
@[simp] theorem State.with_consolePort_platHeld (s : State) (v : PortState) : State.platHeld { s with consolePort := v } = s.platHeld := rfl
@[simp] theorem State.with_consolePort_platHeadway (s : State) (v : PortState) : State.platHeadway { s with consolePort := v } = s.platHeadway := rfl
@[simp] theorem State.with_consolePort_station (s : State) (v : PortState) : State.station { s with consolePort := v } = s.station := rfl
@[simp] theorem State.with_consolePort_template (s : State) (v : PortState) : State.template { s with consolePort := v } = s.template := rfl
@[simp] theorem State.with_consolePort_zone (s : State) (v : PortState) : State.zone { s with consolePort := v } = s.zone := rfl
@[simp] theorem State.with_consolePort_arming (s : State) (v : PortState) : State.arming { s with consolePort := v } = s.arming := rfl
@[simp] theorem State.with_event_unit (s : State) (v : Nat) : State.unit { s with event := v } = s.unit := rfl
@[simp] theorem State.with_event_console (s : State) (v : Nat) : State.console { s with event := v } = s.console := rfl
@[simp] theorem State.with_event_supervision (s : State) (v : Nat) : State.supervision { s with event := v } = s.supervision := rfl
@[simp] theorem State.with_event_slot (s : State) (v : Nat) : State.slot { s with event := v } = s.slot := rfl
@[simp] theorem State.with_event_trainNotice (s : State) (v : Nat) : State.trainNotice { s with event := v } = s.trainNotice := rfl
@[simp] theorem State.with_event_plat (s : State) (v : Nat) : State.plat { s with event := v } = s.plat := rfl
@[simp] theorem State.with_event_feeder (s : State) (v : Nat) : State.feeder { s with event := v } = s.feeder := rfl
@[simp] theorem State.with_event_sect (s : State) (v : Nat) : State.sect { s with event := v } = s.sect := rfl
@[simp] theorem State.with_event_pool (s : State) (v : Nat) : State.pool { s with event := v } = s.pool := rfl
@[simp] theorem State.with_event_kind (s : State) (v : Nat) : State.kind { s with event := v } = s.kind := rfl
@[simp] theorem State.with_event_incident (s : State) (v : Nat) : State.incident { s with event := v } = s.incident := rfl
@[simp] theorem State.with_event_incNotice (s : State) (v : Nat) : State.incNotice { s with event := v } = s.incNotice := rfl
@[simp] theorem State.with_event_interlocked (s : State) (v : Nat) : State.interlocked { s with event := v } = s.interlocked := rfl
@[simp] theorem State.with_event_fraction (s : State) (v : Nat) : State.fraction { s with event := v } = s.fraction := rfl
@[simp] theorem State.with_event_platHeld (s : State) (v : Nat) : State.platHeld { s with event := v } = s.platHeld := rfl
@[simp] theorem State.with_event_platHeadway (s : State) (v : Nat) : State.platHeadway { s with event := v } = s.platHeadway := rfl
@[simp] theorem State.with_event_station (s : State) (v : Nat) : State.station { s with event := v } = s.station := rfl
@[simp] theorem State.with_event_template (s : State) (v : Nat) : State.template { s with event := v } = s.template := rfl
@[simp] theorem State.with_event_zone (s : State) (v : Nat) : State.zone { s with event := v } = s.zone := rfl
@[simp] theorem State.with_event_arming (s : State) (v : Nat) : State.arming { s with event := v } = s.arming := rfl
@[simp] theorem State.with_pending_unit (s : State) (v : List Instr) : State.unit { s with pending := v } = s.unit := rfl
@[simp] theorem State.with_pending_console (s : State) (v : List Instr) : State.console { s with pending := v } = s.console := rfl
@[simp] theorem State.with_pending_supervision (s : State) (v : List Instr) : State.supervision { s with pending := v } = s.supervision := rfl
@[simp] theorem State.with_pending_slot (s : State) (v : List Instr) : State.slot { s with pending := v } = s.slot := rfl
@[simp] theorem State.with_pending_trainNotice (s : State) (v : List Instr) : State.trainNotice { s with pending := v } = s.trainNotice := rfl
@[simp] theorem State.with_pending_plat (s : State) (v : List Instr) : State.plat { s with pending := v } = s.plat := rfl
@[simp] theorem State.with_pending_feeder (s : State) (v : List Instr) : State.feeder { s with pending := v } = s.feeder := rfl
@[simp] theorem State.with_pending_sect (s : State) (v : List Instr) : State.sect { s with pending := v } = s.sect := rfl
@[simp] theorem State.with_pending_pool (s : State) (v : List Instr) : State.pool { s with pending := v } = s.pool := rfl
@[simp] theorem State.with_pending_kind (s : State) (v : List Instr) : State.kind { s with pending := v } = s.kind := rfl
@[simp] theorem State.with_pending_incident (s : State) (v : List Instr) : State.incident { s with pending := v } = s.incident := rfl
@[simp] theorem State.with_pending_incNotice (s : State) (v : List Instr) : State.incNotice { s with pending := v } = s.incNotice := rfl
@[simp] theorem State.with_pending_interlocked (s : State) (v : List Instr) : State.interlocked { s with pending := v } = s.interlocked := rfl
@[simp] theorem State.with_pending_fraction (s : State) (v : List Instr) : State.fraction { s with pending := v } = s.fraction := rfl
@[simp] theorem State.with_pending_platHeld (s : State) (v : List Instr) : State.platHeld { s with pending := v } = s.platHeld := rfl
@[simp] theorem State.with_pending_platHeadway (s : State) (v : List Instr) : State.platHeadway { s with pending := v } = s.platHeadway := rfl
@[simp] theorem State.with_pending_station (s : State) (v : List Instr) : State.station { s with pending := v } = s.station := rfl
@[simp] theorem State.with_pending_template (s : State) (v : List Instr) : State.template { s with pending := v } = s.template := rfl
@[simp] theorem State.with_pending_zone (s : State) (v : List Instr) : State.zone { s with pending := v } = s.zone := rfl
@[simp] theorem State.with_pending_arming (s : State) (v : List Instr) : State.arming { s with pending := v } = s.arming := rfl

/-! ## Records -/

/-- A record read after it is written (unit). -/
theorem State.unit_setUnit (s : State) (i j : Nat) (v : UnitEntry) : (s.setUnit i v).unit j = if j = i then v else s.unit j := Tab.get_set ..
@[simp] theorem State.unit_setUnit_self (s : State) (i : Nat) (v : UnitEntry) : (s.setUnit i v).unit i = v := Tab.get_set_self ..
theorem State.unit_setUnit_ne (s : State) {i j : Nat} (v : UnitEntry) (h : j ≠ i) : (s.setUnit i v).unit j = s.unit j := Tab.get_set_ne _ _ _ h
theorem State.setUnit_table (s : State) (i : Nat) (v : UnitEntry) : (s.setUnit i v).cls.units = Tab.set {} s.cls.units i v := rfl
theorem State.setUnit_cls (s : State) (i : Nat) (v : UnitEntry) : (s.setUnit i v).cls = { s.cls with units := Tab.set {} s.cls.units i v } := rfl
@[simp] theorem State.setUnit_keeps (s : State) (i : Nat) (v : UnitEntry) :
    (s.setUnit i v).pending = s.pending ∧ (s.setUnit i v).resetHeld = s.resetHeld ∧ (s.setUnit i v).event = s.event ∧ (s.setUnit i v).hnd = s.hnd ∧ (s.setUnit i v).cls.consoles = s.cls.consoles ∧ (s.setUnit i v).console = s.console ∧ (s.setUnit i v).cls.unknownSource = s.cls.unknownSource ∧ (s.setUnit i v).cls.roleMismatch = s.cls.roleMismatch ∧ (s.setUnit i v).tim = s.tim ∧ (s.setUnit i v).supervision = s.supervision ∧ (s.setUnit i v).reg = s.reg ∧ (s.setUnit i v).slot = s.slot ∧ (s.setUnit i v).trainNotice = s.trainNotice ∧ (s.setUnit i v).plat = s.plat ∧ (s.setUnit i v).pow = s.pow ∧ (s.setUnit i v).feeder = s.feeder ∧ (s.setUnit i v).sect = s.sect ∧ (s.setUnit i v).pool = s.pool ∧ (s.setUnit i v).inc = s.inc ∧ (s.setUnit i v).kind = s.kind ∧ (s.setUnit i v).incident = s.incident ∧ (s.setUnit i v).incNotice = s.incNotice ∧ (s.setUnit i v).interlocked = s.interlocked ∧ (s.setUnit i v).fraction = s.fraction ∧ (s.setUnit i v).platHeld = s.platHeld ∧ (s.setUnit i v).platHeadway = s.platHeadway ∧ (s.setUnit i v).com = s.com ∧ (s.setUnit i v).station = s.station ∧ (s.setUnit i v).template = s.template ∧ (s.setUnit i v).zone = s.zone ∧ (s.setUnit i v).arming = s.arming ∧ (s.setUnit i v).fieldPort = s.fieldPort ∧ (s.setUnit i v).consolePort = s.consolePort := by
  refine ⟨rfl, rfl, rfl, rfl, rfl, rfl, rfl, rfl, rfl, rfl, rfl, rfl, rfl, rfl, rfl, rfl, rfl, rfl, rfl, rfl, rfl, rfl, rfl, rfl, rfl, rfl, rfl, rfl, rfl, rfl, rfl, rfl, rfl⟩

/-- A record read after it is written (console). -/
theorem State.console_setConsole (s : State) (i j : Nat) (v : Option ConsoleEntry) : (s.setConsole i v).console j = if j = i then v else s.console j := Tab.get_set ..
@[simp] theorem State.console_setConsole_self (s : State) (i : Nat) (v : Option ConsoleEntry) : (s.setConsole i v).console i = v := Tab.get_set_self ..
theorem State.console_setConsole_ne (s : State) {i j : Nat} (v : Option ConsoleEntry) (h : j ≠ i) : (s.setConsole i v).console j = s.console j := Tab.get_set_ne _ _ _ h
theorem State.setConsole_table (s : State) (i : Nat) (v : Option ConsoleEntry) : (s.setConsole i v).cls.consoles = Tab.set none s.cls.consoles i v := rfl
theorem State.setConsole_cls (s : State) (i : Nat) (v : Option ConsoleEntry) : (s.setConsole i v).cls = { s.cls with consoles := Tab.set none s.cls.consoles i v } := rfl
@[simp] theorem State.setConsole_keeps (s : State) (i : Nat) (v : Option ConsoleEntry) :
    (s.setConsole i v).pending = s.pending ∧ (s.setConsole i v).resetHeld = s.resetHeld ∧ (s.setConsole i v).event = s.event ∧ (s.setConsole i v).hnd = s.hnd ∧ (s.setConsole i v).cls.units = s.cls.units ∧ (s.setConsole i v).unit = s.unit ∧ (s.setConsole i v).cls.unknownSource = s.cls.unknownSource ∧ (s.setConsole i v).cls.roleMismatch = s.cls.roleMismatch ∧ (s.setConsole i v).tim = s.tim ∧ (s.setConsole i v).supervision = s.supervision ∧ (s.setConsole i v).reg = s.reg ∧ (s.setConsole i v).slot = s.slot ∧ (s.setConsole i v).trainNotice = s.trainNotice ∧ (s.setConsole i v).plat = s.plat ∧ (s.setConsole i v).pow = s.pow ∧ (s.setConsole i v).feeder = s.feeder ∧ (s.setConsole i v).sect = s.sect ∧ (s.setConsole i v).pool = s.pool ∧ (s.setConsole i v).inc = s.inc ∧ (s.setConsole i v).kind = s.kind ∧ (s.setConsole i v).incident = s.incident ∧ (s.setConsole i v).incNotice = s.incNotice ∧ (s.setConsole i v).interlocked = s.interlocked ∧ (s.setConsole i v).fraction = s.fraction ∧ (s.setConsole i v).platHeld = s.platHeld ∧ (s.setConsole i v).platHeadway = s.platHeadway ∧ (s.setConsole i v).com = s.com ∧ (s.setConsole i v).station = s.station ∧ (s.setConsole i v).template = s.template ∧ (s.setConsole i v).zone = s.zone ∧ (s.setConsole i v).arming = s.arming ∧ (s.setConsole i v).fieldPort = s.fieldPort ∧ (s.setConsole i v).consolePort = s.consolePort := by
  refine ⟨rfl, rfl, rfl, rfl, rfl, rfl, rfl, rfl, rfl, rfl, rfl, rfl, rfl, rfl, rfl, rfl, rfl, rfl, rfl, rfl, rfl, rfl, rfl, rfl, rfl, rfl, rfl, rfl, rfl, rfl, rfl, rfl, rfl⟩

/-- A record read after it is written (supervision). -/
theorem State.supervision_setSupervision (s : State) (i j : Nat) (v : Supervision) : (s.setSupervision i v).supervision j = if j = i then v else s.supervision j := Tab.get_set ..
@[simp] theorem State.supervision_setSupervision_self (s : State) (i : Nat) (v : Supervision) : (s.setSupervision i v).supervision i = v := Tab.get_set_self ..
theorem State.supervision_setSupervision_ne (s : State) {i j : Nat} (v : Supervision) (h : j ≠ i) : (s.setSupervision i v).supervision j = s.supervision j := Tab.get_set_ne _ _ _ h
theorem State.setSupervision_table (s : State) (i : Nat) (v : Supervision) : (s.setSupervision i v).tim.supervision = Tab.set {} s.tim.supervision i v := rfl
theorem State.setSupervision_tim (s : State) (i : Nat) (v : Supervision) : (s.setSupervision i v).tim = { s.tim with supervision := Tab.set {} s.tim.supervision i v } := rfl
@[simp] theorem State.setSupervision_keeps (s : State) (i : Nat) (v : Supervision) :
    (s.setSupervision i v).pending = s.pending ∧ (s.setSupervision i v).resetHeld = s.resetHeld ∧ (s.setSupervision i v).event = s.event ∧ (s.setSupervision i v).hnd = s.hnd ∧ (s.setSupervision i v).cls = s.cls ∧ (s.setSupervision i v).unit = s.unit ∧ (s.setSupervision i v).console = s.console ∧ (s.setSupervision i v).tim.lineTime = s.tim.lineTime ∧ (s.setSupervision i v).tim.clockSet = s.tim.clockSet ∧ (s.setSupervision i v).tim.slew = s.tim.slew ∧ (s.setSupervision i v).tim.phase = s.tim.phase ∧ (s.setSupervision i v).tim.interval = s.tim.interval ∧ (s.setSupervision i v).tim.waiting = s.tim.waiting ∧ (s.setSupervision i v).tim.correctionDue = s.tim.correctionDue ∧ (s.setSupervision i v).tim.withhold = s.tim.withhold ∧ (s.setSupervision i v).tim.displayDue = s.tim.displayDue ∧ (s.setSupervision i v).tim.publishDue = s.tim.publishDue ∧ (s.setSupervision i v).reg = s.reg ∧ (s.setSupervision i v).slot = s.slot ∧ (s.setSupervision i v).trainNotice = s.trainNotice ∧ (s.setSupervision i v).plat = s.plat ∧ (s.setSupervision i v).pow = s.pow ∧ (s.setSupervision i v).feeder = s.feeder ∧ (s.setSupervision i v).sect = s.sect ∧ (s.setSupervision i v).pool = s.pool ∧ (s.setSupervision i v).inc = s.inc ∧ (s.setSupervision i v).kind = s.kind ∧ (s.setSupervision i v).incident = s.incident ∧ (s.setSupervision i v).incNotice = s.incNotice ∧ (s.setSupervision i v).interlocked = s.interlocked ∧ (s.setSupervision i v).fraction = s.fraction ∧ (s.setSupervision i v).platHeld = s.platHeld ∧ (s.setSupervision i v).platHeadway = s.platHeadway ∧ (s.setSupervision i v).com = s.com ∧ (s.setSupervision i v).station = s.station ∧ (s.setSupervision i v).template = s.template ∧ (s.setSupervision i v).zone = s.zone ∧ (s.setSupervision i v).arming = s.arming ∧ (s.setSupervision i v).fieldPort = s.fieldPort ∧ (s.setSupervision i v).consolePort = s.consolePort := by
  refine ⟨rfl, rfl, rfl, rfl, rfl, rfl, rfl, rfl, rfl, rfl, rfl, rfl, rfl, rfl, rfl, rfl, rfl, rfl, rfl, rfl, rfl, rfl, rfl, rfl, rfl, rfl, rfl, rfl, rfl, rfl, rfl, rfl, rfl, rfl, rfl, rfl, rfl, rfl, rfl, rfl⟩

/-- A record read after it is written (slot). -/
theorem State.slot_setSlot (s : State) (i j : Nat) (v : Slot) : (s.setSlot i v).slot j = if j = i then v else s.slot j := Tab.get_set ..
@[simp] theorem State.slot_setSlot_self (s : State) (i : Nat) (v : Slot) : (s.setSlot i v).slot i = v := Tab.get_set_self ..
theorem State.slot_setSlot_ne (s : State) {i j : Nat} (v : Slot) (h : j ≠ i) : (s.setSlot i v).slot j = s.slot j := Tab.get_set_ne _ _ _ h
theorem State.setSlot_table (s : State) (i : Nat) (v : Slot) : (s.setSlot i v).reg.trains = Tab.set {} s.reg.trains i v := rfl
theorem State.setSlot_reg (s : State) (i : Nat) (v : Slot) : (s.setSlot i v).reg = { s.reg with trains := Tab.set {} s.reg.trains i v } := rfl
@[simp] theorem State.setSlot_keeps (s : State) (i : Nat) (v : Slot) :
    (s.setSlot i v).pending = s.pending ∧ (s.setSlot i v).resetHeld = s.resetHeld ∧ (s.setSlot i v).event = s.event ∧ (s.setSlot i v).hnd = s.hnd ∧ (s.setSlot i v).cls = s.cls ∧ (s.setSlot i v).unit = s.unit ∧ (s.setSlot i v).console = s.console ∧ (s.setSlot i v).tim = s.tim ∧ (s.setSlot i v).supervision = s.supervision ∧ (s.setSlot i v).reg.notices = s.reg.notices ∧ (s.setSlot i v).trainNotice = s.trainNotice ∧ (s.setSlot i v).reg.platforms = s.reg.platforms ∧ (s.setSlot i v).plat = s.plat ∧ (s.setSlot i v).reg.outcomes = s.reg.outcomes ∧ (s.setSlot i v).reg.outcomeLoss = s.reg.outcomeLoss ∧ (s.setSlot i v).pow = s.pow ∧ (s.setSlot i v).feeder = s.feeder ∧ (s.setSlot i v).sect = s.sect ∧ (s.setSlot i v).pool = s.pool ∧ (s.setSlot i v).inc = s.inc ∧ (s.setSlot i v).kind = s.kind ∧ (s.setSlot i v).incident = s.incident ∧ (s.setSlot i v).incNotice = s.incNotice ∧ (s.setSlot i v).interlocked = s.interlocked ∧ (s.setSlot i v).fraction = s.fraction ∧ (s.setSlot i v).platHeld = s.platHeld ∧ (s.setSlot i v).platHeadway = s.platHeadway ∧ (s.setSlot i v).com = s.com ∧ (s.setSlot i v).station = s.station ∧ (s.setSlot i v).template = s.template ∧ (s.setSlot i v).zone = s.zone ∧ (s.setSlot i v).arming = s.arming ∧ (s.setSlot i v).fieldPort = s.fieldPort ∧ (s.setSlot i v).consolePort = s.consolePort := by
  refine ⟨rfl, rfl, rfl, rfl, rfl, rfl, rfl, rfl, rfl, rfl, rfl, rfl, rfl, rfl, rfl, rfl, rfl, rfl, rfl, rfl, rfl, rfl, rfl, rfl, rfl, rfl, rfl, rfl, rfl, rfl, rfl, rfl, rfl, rfl⟩

/-- A record read after it is written (trainNotice). -/
theorem State.trainNotice_setTrainNotice (s : State) (i j : Nat) (v : Option TrainNotice) : (s.setTrainNotice i v).trainNotice j = if j = i then v else s.trainNotice j := Tab.get_set ..
@[simp] theorem State.trainNotice_setTrainNotice_self (s : State) (i : Nat) (v : Option TrainNotice) : (s.setTrainNotice i v).trainNotice i = v := Tab.get_set_self ..
theorem State.trainNotice_setTrainNotice_ne (s : State) {i j : Nat} (v : Option TrainNotice) (h : j ≠ i) : (s.setTrainNotice i v).trainNotice j = s.trainNotice j := Tab.get_set_ne _ _ _ h
theorem State.setTrainNotice_table (s : State) (i : Nat) (v : Option TrainNotice) : (s.setTrainNotice i v).reg.notices = Tab.set none s.reg.notices i v := rfl
theorem State.setTrainNotice_reg (s : State) (i : Nat) (v : Option TrainNotice) : (s.setTrainNotice i v).reg = { s.reg with notices := Tab.set none s.reg.notices i v } := rfl
@[simp] theorem State.setTrainNotice_keeps (s : State) (i : Nat) (v : Option TrainNotice) :
    (s.setTrainNotice i v).pending = s.pending ∧ (s.setTrainNotice i v).resetHeld = s.resetHeld ∧ (s.setTrainNotice i v).event = s.event ∧ (s.setTrainNotice i v).hnd = s.hnd ∧ (s.setTrainNotice i v).cls = s.cls ∧ (s.setTrainNotice i v).unit = s.unit ∧ (s.setTrainNotice i v).console = s.console ∧ (s.setTrainNotice i v).tim = s.tim ∧ (s.setTrainNotice i v).supervision = s.supervision ∧ (s.setTrainNotice i v).reg.trains = s.reg.trains ∧ (s.setTrainNotice i v).slot = s.slot ∧ (s.setTrainNotice i v).reg.platforms = s.reg.platforms ∧ (s.setTrainNotice i v).plat = s.plat ∧ (s.setTrainNotice i v).reg.outcomes = s.reg.outcomes ∧ (s.setTrainNotice i v).reg.outcomeLoss = s.reg.outcomeLoss ∧ (s.setTrainNotice i v).pow = s.pow ∧ (s.setTrainNotice i v).feeder = s.feeder ∧ (s.setTrainNotice i v).sect = s.sect ∧ (s.setTrainNotice i v).pool = s.pool ∧ (s.setTrainNotice i v).inc = s.inc ∧ (s.setTrainNotice i v).kind = s.kind ∧ (s.setTrainNotice i v).incident = s.incident ∧ (s.setTrainNotice i v).incNotice = s.incNotice ∧ (s.setTrainNotice i v).interlocked = s.interlocked ∧ (s.setTrainNotice i v).fraction = s.fraction ∧ (s.setTrainNotice i v).platHeld = s.platHeld ∧ (s.setTrainNotice i v).platHeadway = s.platHeadway ∧ (s.setTrainNotice i v).com = s.com ∧ (s.setTrainNotice i v).station = s.station ∧ (s.setTrainNotice i v).template = s.template ∧ (s.setTrainNotice i v).zone = s.zone ∧ (s.setTrainNotice i v).arming = s.arming ∧ (s.setTrainNotice i v).fieldPort = s.fieldPort ∧ (s.setTrainNotice i v).consolePort = s.consolePort := by
  refine ⟨rfl, rfl, rfl, rfl, rfl, rfl, rfl, rfl, rfl, rfl, rfl, rfl, rfl, rfl, rfl, rfl, rfl, rfl, rfl, rfl, rfl, rfl, rfl, rfl, rfl, rfl, rfl, rfl, rfl, rfl, rfl, rfl, rfl, rfl⟩

/-- A record read after it is written (plat). -/
theorem State.plat_setPlat (s : State) (i j : Nat) (v : Platform) : (s.setPlat i v).plat j = if j = i then v else s.plat j := Tab.get_set ..
@[simp] theorem State.plat_setPlat_self (s : State) (i : Nat) (v : Platform) : (s.setPlat i v).plat i = v := Tab.get_set_self ..
theorem State.plat_setPlat_ne (s : State) {i j : Nat} (v : Platform) (h : j ≠ i) : (s.setPlat i v).plat j = s.plat j := Tab.get_set_ne _ _ _ h
theorem State.setPlat_table (s : State) (i : Nat) (v : Platform) : (s.setPlat i v).reg.platforms = Tab.set {} s.reg.platforms i v := rfl
theorem State.setPlat_reg (s : State) (i : Nat) (v : Platform) : (s.setPlat i v).reg = { s.reg with platforms := Tab.set {} s.reg.platforms i v } := rfl
@[simp] theorem State.setPlat_keeps (s : State) (i : Nat) (v : Platform) :
    (s.setPlat i v).pending = s.pending ∧ (s.setPlat i v).resetHeld = s.resetHeld ∧ (s.setPlat i v).event = s.event ∧ (s.setPlat i v).hnd = s.hnd ∧ (s.setPlat i v).cls = s.cls ∧ (s.setPlat i v).unit = s.unit ∧ (s.setPlat i v).console = s.console ∧ (s.setPlat i v).tim = s.tim ∧ (s.setPlat i v).supervision = s.supervision ∧ (s.setPlat i v).reg.trains = s.reg.trains ∧ (s.setPlat i v).slot = s.slot ∧ (s.setPlat i v).reg.notices = s.reg.notices ∧ (s.setPlat i v).trainNotice = s.trainNotice ∧ (s.setPlat i v).reg.outcomes = s.reg.outcomes ∧ (s.setPlat i v).reg.outcomeLoss = s.reg.outcomeLoss ∧ (s.setPlat i v).pow = s.pow ∧ (s.setPlat i v).feeder = s.feeder ∧ (s.setPlat i v).sect = s.sect ∧ (s.setPlat i v).pool = s.pool ∧ (s.setPlat i v).inc = s.inc ∧ (s.setPlat i v).kind = s.kind ∧ (s.setPlat i v).incident = s.incident ∧ (s.setPlat i v).incNotice = s.incNotice ∧ (s.setPlat i v).interlocked = s.interlocked ∧ (s.setPlat i v).fraction = s.fraction ∧ (s.setPlat i v).platHeld = s.platHeld ∧ (s.setPlat i v).platHeadway = s.platHeadway ∧ (s.setPlat i v).com = s.com ∧ (s.setPlat i v).station = s.station ∧ (s.setPlat i v).template = s.template ∧ (s.setPlat i v).zone = s.zone ∧ (s.setPlat i v).arming = s.arming ∧ (s.setPlat i v).fieldPort = s.fieldPort ∧ (s.setPlat i v).consolePort = s.consolePort := by
  refine ⟨rfl, rfl, rfl, rfl, rfl, rfl, rfl, rfl, rfl, rfl, rfl, rfl, rfl, rfl, rfl, rfl, rfl, rfl, rfl, rfl, rfl, rfl, rfl, rfl, rfl, rfl, rfl, rfl, rfl, rfl, rfl, rfl, rfl, rfl⟩

/-- A record read after it is written (feeder). -/
theorem State.feeder_setFeeder (s : State) (i j : Nat) (v : Feeder) : (s.setFeeder i v).feeder j = if j = i then v else s.feeder j := Tab.get_set ..
@[simp] theorem State.feeder_setFeeder_self (s : State) (i : Nat) (v : Feeder) : (s.setFeeder i v).feeder i = v := Tab.get_set_self ..
theorem State.feeder_setFeeder_ne (s : State) {i j : Nat} (v : Feeder) (h : j ≠ i) : (s.setFeeder i v).feeder j = s.feeder j := Tab.get_set_ne _ _ _ h
theorem State.setFeeder_table (s : State) (i : Nat) (v : Feeder) : (s.setFeeder i v).pow.feeders = Tab.set {} s.pow.feeders i v := rfl
theorem State.setFeeder_pow (s : State) (i : Nat) (v : Feeder) : (s.setFeeder i v).pow = { s.pow with feeders := Tab.set {} s.pow.feeders i v } := rfl
@[simp] theorem State.setFeeder_keeps (s : State) (i : Nat) (v : Feeder) :
    (s.setFeeder i v).pending = s.pending ∧ (s.setFeeder i v).resetHeld = s.resetHeld ∧ (s.setFeeder i v).event = s.event ∧ (s.setFeeder i v).hnd = s.hnd ∧ (s.setFeeder i v).cls = s.cls ∧ (s.setFeeder i v).unit = s.unit ∧ (s.setFeeder i v).console = s.console ∧ (s.setFeeder i v).tim = s.tim ∧ (s.setFeeder i v).supervision = s.supervision ∧ (s.setFeeder i v).reg = s.reg ∧ (s.setFeeder i v).slot = s.slot ∧ (s.setFeeder i v).trainNotice = s.trainNotice ∧ (s.setFeeder i v).plat = s.plat ∧ (s.setFeeder i v).pow.sections = s.pow.sections ∧ (s.setFeeder i v).sect = s.sect ∧ (s.setFeeder i v).pow.pool = s.pow.pool ∧ (s.setFeeder i v).pool = s.pool ∧ (s.setFeeder i v).pow.demand0 = s.pow.demand0 ∧ (s.setFeeder i v).pow.demand1 = s.pow.demand1 ∧ (s.setFeeder i v).pow.demand2 = s.pow.demand2 ∧ (s.setFeeder i v).pow.demand3 = s.pow.demand3 ∧ (s.setFeeder i v).inc = s.inc ∧ (s.setFeeder i v).kind = s.kind ∧ (s.setFeeder i v).incident = s.incident ∧ (s.setFeeder i v).incNotice = s.incNotice ∧ (s.setFeeder i v).interlocked = s.interlocked ∧ (s.setFeeder i v).fraction = s.fraction ∧ (s.setFeeder i v).platHeld = s.platHeld ∧ (s.setFeeder i v).platHeadway = s.platHeadway ∧ (s.setFeeder i v).com = s.com ∧ (s.setFeeder i v).station = s.station ∧ (s.setFeeder i v).template = s.template ∧ (s.setFeeder i v).zone = s.zone ∧ (s.setFeeder i v).arming = s.arming ∧ (s.setFeeder i v).fieldPort = s.fieldPort ∧ (s.setFeeder i v).consolePort = s.consolePort := by
  refine ⟨rfl, rfl, rfl, rfl, rfl, rfl, rfl, rfl, rfl, rfl, rfl, rfl, rfl, rfl, rfl, rfl, rfl, rfl, rfl, rfl, rfl, rfl, rfl, rfl, rfl, rfl, rfl, rfl, rfl, rfl, rfl, rfl, rfl, rfl, rfl, rfl⟩

/-- A record read after it is written (sect). -/
theorem State.sect_setSect (s : State) (i j : Nat) (v : Sect) : (s.setSect i v).sect j = if j = i then v else s.sect j := Tab.get_set ..
@[simp] theorem State.sect_setSect_self (s : State) (i : Nat) (v : Sect) : (s.setSect i v).sect i = v := Tab.get_set_self ..
theorem State.sect_setSect_ne (s : State) {i j : Nat} (v : Sect) (h : j ≠ i) : (s.setSect i v).sect j = s.sect j := Tab.get_set_ne _ _ _ h
theorem State.setSect_table (s : State) (i : Nat) (v : Sect) : (s.setSect i v).pow.sections = Tab.set {} s.pow.sections i v := rfl
theorem State.setSect_pow (s : State) (i : Nat) (v : Sect) : (s.setSect i v).pow = { s.pow with sections := Tab.set {} s.pow.sections i v } := rfl
@[simp] theorem State.setSect_keeps (s : State) (i : Nat) (v : Sect) :
    (s.setSect i v).pending = s.pending ∧ (s.setSect i v).resetHeld = s.resetHeld ∧ (s.setSect i v).event = s.event ∧ (s.setSect i v).hnd = s.hnd ∧ (s.setSect i v).cls = s.cls ∧ (s.setSect i v).unit = s.unit ∧ (s.setSect i v).console = s.console ∧ (s.setSect i v).tim = s.tim ∧ (s.setSect i v).supervision = s.supervision ∧ (s.setSect i v).reg = s.reg ∧ (s.setSect i v).slot = s.slot ∧ (s.setSect i v).trainNotice = s.trainNotice ∧ (s.setSect i v).plat = s.plat ∧ (s.setSect i v).pow.feeders = s.pow.feeders ∧ (s.setSect i v).feeder = s.feeder ∧ (s.setSect i v).pow.pool = s.pow.pool ∧ (s.setSect i v).pool = s.pool ∧ (s.setSect i v).pow.demand0 = s.pow.demand0 ∧ (s.setSect i v).pow.demand1 = s.pow.demand1 ∧ (s.setSect i v).pow.demand2 = s.pow.demand2 ∧ (s.setSect i v).pow.demand3 = s.pow.demand3 ∧ (s.setSect i v).inc = s.inc ∧ (s.setSect i v).kind = s.kind ∧ (s.setSect i v).incident = s.incident ∧ (s.setSect i v).incNotice = s.incNotice ∧ (s.setSect i v).interlocked = s.interlocked ∧ (s.setSect i v).fraction = s.fraction ∧ (s.setSect i v).platHeld = s.platHeld ∧ (s.setSect i v).platHeadway = s.platHeadway ∧ (s.setSect i v).com = s.com ∧ (s.setSect i v).station = s.station ∧ (s.setSect i v).template = s.template ∧ (s.setSect i v).zone = s.zone ∧ (s.setSect i v).arming = s.arming ∧ (s.setSect i v).fieldPort = s.fieldPort ∧ (s.setSect i v).consolePort = s.consolePort := by
  refine ⟨rfl, rfl, rfl, rfl, rfl, rfl, rfl, rfl, rfl, rfl, rfl, rfl, rfl, rfl, rfl, rfl, rfl, rfl, rfl, rfl, rfl, rfl, rfl, rfl, rfl, rfl, rfl, rfl, rfl, rfl, rfl, rfl, rfl, rfl, rfl, rfl⟩

/-- A record read after it is written (pool). -/
theorem State.pool_setPool (s : State) (i j : Nat) (v : PoolEntry) : (s.setPool i v).pool j = if j = i then v else s.pool j := Tab.get_set ..
@[simp] theorem State.pool_setPool_self (s : State) (i : Nat) (v : PoolEntry) : (s.setPool i v).pool i = v := Tab.get_set_self ..
theorem State.pool_setPool_ne (s : State) {i j : Nat} (v : PoolEntry) (h : j ≠ i) : (s.setPool i v).pool j = s.pool j := Tab.get_set_ne _ _ _ h
theorem State.setPool_table (s : State) (i : Nat) (v : PoolEntry) : (s.setPool i v).pow.pool = Tab.set .free s.pow.pool i v := rfl
theorem State.setPool_pow (s : State) (i : Nat) (v : PoolEntry) : (s.setPool i v).pow = { s.pow with pool := Tab.set .free s.pow.pool i v } := rfl
@[simp] theorem State.setPool_keeps (s : State) (i : Nat) (v : PoolEntry) :
    (s.setPool i v).pending = s.pending ∧ (s.setPool i v).resetHeld = s.resetHeld ∧ (s.setPool i v).event = s.event ∧ (s.setPool i v).hnd = s.hnd ∧ (s.setPool i v).cls = s.cls ∧ (s.setPool i v).unit = s.unit ∧ (s.setPool i v).console = s.console ∧ (s.setPool i v).tim = s.tim ∧ (s.setPool i v).supervision = s.supervision ∧ (s.setPool i v).reg = s.reg ∧ (s.setPool i v).slot = s.slot ∧ (s.setPool i v).trainNotice = s.trainNotice ∧ (s.setPool i v).plat = s.plat ∧ (s.setPool i v).pow.feeders = s.pow.feeders ∧ (s.setPool i v).feeder = s.feeder ∧ (s.setPool i v).pow.sections = s.pow.sections ∧ (s.setPool i v).sect = s.sect ∧ (s.setPool i v).pow.demand0 = s.pow.demand0 ∧ (s.setPool i v).pow.demand1 = s.pow.demand1 ∧ (s.setPool i v).pow.demand2 = s.pow.demand2 ∧ (s.setPool i v).pow.demand3 = s.pow.demand3 ∧ (s.setPool i v).inc = s.inc ∧ (s.setPool i v).kind = s.kind ∧ (s.setPool i v).incident = s.incident ∧ (s.setPool i v).incNotice = s.incNotice ∧ (s.setPool i v).interlocked = s.interlocked ∧ (s.setPool i v).fraction = s.fraction ∧ (s.setPool i v).platHeld = s.platHeld ∧ (s.setPool i v).platHeadway = s.platHeadway ∧ (s.setPool i v).com = s.com ∧ (s.setPool i v).station = s.station ∧ (s.setPool i v).template = s.template ∧ (s.setPool i v).zone = s.zone ∧ (s.setPool i v).arming = s.arming ∧ (s.setPool i v).fieldPort = s.fieldPort ∧ (s.setPool i v).consolePort = s.consolePort := by
  refine ⟨rfl, rfl, rfl, rfl, rfl, rfl, rfl, rfl, rfl, rfl, rfl, rfl, rfl, rfl, rfl, rfl, rfl, rfl, rfl, rfl, rfl, rfl, rfl, rfl, rfl, rfl, rfl, rfl, rfl, rfl, rfl, rfl, rfl, rfl, rfl, rfl⟩

/-- A record read after it is written (kind). -/
theorem State.kind_setKind (s : State) (i j : Nat) (v : Kind) : (s.setKind i v).kind j = if j = i then v else s.kind j := Tab.get_set ..
@[simp] theorem State.kind_setKind_self (s : State) (i : Nat) (v : Kind) : (s.setKind i v).kind i = v := Tab.get_set_self ..
theorem State.kind_setKind_ne (s : State) {i j : Nat} (v : Kind) (h : j ≠ i) : (s.setKind i v).kind j = s.kind j := Tab.get_set_ne _ _ _ h
theorem State.setKind_table (s : State) (i : Nat) (v : Kind) : (s.setKind i v).inc.kinds = Tab.set {} s.inc.kinds i v := rfl
theorem State.setKind_inc (s : State) (i : Nat) (v : Kind) : (s.setKind i v).inc = { s.inc with kinds := Tab.set {} s.inc.kinds i v } := rfl
@[simp] theorem State.setKind_keeps (s : State) (i : Nat) (v : Kind) :
    (s.setKind i v).pending = s.pending ∧ (s.setKind i v).resetHeld = s.resetHeld ∧ (s.setKind i v).event = s.event ∧ (s.setKind i v).hnd = s.hnd ∧ (s.setKind i v).cls = s.cls ∧ (s.setKind i v).unit = s.unit ∧ (s.setKind i v).console = s.console ∧ (s.setKind i v).tim = s.tim ∧ (s.setKind i v).supervision = s.supervision ∧ (s.setKind i v).reg = s.reg ∧ (s.setKind i v).slot = s.slot ∧ (s.setKind i v).trainNotice = s.trainNotice ∧ (s.setKind i v).plat = s.plat ∧ (s.setKind i v).pow = s.pow ∧ (s.setKind i v).feeder = s.feeder ∧ (s.setKind i v).sect = s.sect ∧ (s.setKind i v).pool = s.pool ∧ (s.setKind i v).inc.entries = s.inc.entries ∧ (s.setKind i v).incident = s.incident ∧ (s.setKind i v).inc.cleared = s.inc.cleared ∧ (s.setKind i v).inc.nextNumber = s.inc.nextNumber ∧ (s.setKind i v).inc.overflow = s.inc.overflow ∧ (s.setKind i v).inc.notices = s.inc.notices ∧ (s.setKind i v).incNotice = s.incNotice ∧ (s.setKind i v).inc.order = s.inc.order ∧ (s.setKind i v).inc.interlock = s.inc.interlock ∧ (s.setKind i v).interlocked = s.interlocked ∧ (s.setKind i v).inc.fraction = s.inc.fraction ∧ (s.setKind i v).fraction = s.fraction ∧ (s.setKind i v).inc.held = s.inc.held ∧ (s.setKind i v).platHeld = s.platHeld ∧ (s.setKind i v).inc.headway = s.inc.headway ∧ (s.setKind i v).platHeadway = s.platHeadway ∧ (s.setKind i v).com = s.com ∧ (s.setKind i v).station = s.station ∧ (s.setKind i v).template = s.template ∧ (s.setKind i v).zone = s.zone ∧ (s.setKind i v).arming = s.arming ∧ (s.setKind i v).fieldPort = s.fieldPort ∧ (s.setKind i v).consolePort = s.consolePort := by
  refine ⟨rfl, rfl, rfl, rfl, rfl, rfl, rfl, rfl, rfl, rfl, rfl, rfl, rfl, rfl, rfl, rfl, rfl, rfl, rfl, rfl, rfl, rfl, rfl, rfl, rfl, rfl, rfl, rfl, rfl, rfl, rfl, rfl, rfl, rfl, rfl, rfl, rfl, rfl, rfl, rfl⟩

/-- A record read after it is written (incident). -/
theorem State.incident_setIncident (s : State) (i j : Nat) (v : Option Incident) : (s.setIncident i v).incident j = if j = i then v else s.incident j := Tab.get_set ..
@[simp] theorem State.incident_setIncident_self (s : State) (i : Nat) (v : Option Incident) : (s.setIncident i v).incident i = v := Tab.get_set_self ..
theorem State.incident_setIncident_ne (s : State) {i j : Nat} (v : Option Incident) (h : j ≠ i) : (s.setIncident i v).incident j = s.incident j := Tab.get_set_ne _ _ _ h
theorem State.setIncident_table (s : State) (i : Nat) (v : Option Incident) : (s.setIncident i v).inc.entries = Tab.set none s.inc.entries i v := rfl
theorem State.setIncident_inc (s : State) (i : Nat) (v : Option Incident) : (s.setIncident i v).inc = { s.inc with entries := Tab.set none s.inc.entries i v } := rfl
@[simp] theorem State.setIncident_keeps (s : State) (i : Nat) (v : Option Incident) :
    (s.setIncident i v).pending = s.pending ∧ (s.setIncident i v).resetHeld = s.resetHeld ∧ (s.setIncident i v).event = s.event ∧ (s.setIncident i v).hnd = s.hnd ∧ (s.setIncident i v).cls = s.cls ∧ (s.setIncident i v).unit = s.unit ∧ (s.setIncident i v).console = s.console ∧ (s.setIncident i v).tim = s.tim ∧ (s.setIncident i v).supervision = s.supervision ∧ (s.setIncident i v).reg = s.reg ∧ (s.setIncident i v).slot = s.slot ∧ (s.setIncident i v).trainNotice = s.trainNotice ∧ (s.setIncident i v).plat = s.plat ∧ (s.setIncident i v).pow = s.pow ∧ (s.setIncident i v).feeder = s.feeder ∧ (s.setIncident i v).sect = s.sect ∧ (s.setIncident i v).pool = s.pool ∧ (s.setIncident i v).inc.kinds = s.inc.kinds ∧ (s.setIncident i v).kind = s.kind ∧ (s.setIncident i v).inc.cleared = s.inc.cleared ∧ (s.setIncident i v).inc.nextNumber = s.inc.nextNumber ∧ (s.setIncident i v).inc.overflow = s.inc.overflow ∧ (s.setIncident i v).inc.notices = s.inc.notices ∧ (s.setIncident i v).incNotice = s.incNotice ∧ (s.setIncident i v).inc.order = s.inc.order ∧ (s.setIncident i v).inc.interlock = s.inc.interlock ∧ (s.setIncident i v).interlocked = s.interlocked ∧ (s.setIncident i v).inc.fraction = s.inc.fraction ∧ (s.setIncident i v).fraction = s.fraction ∧ (s.setIncident i v).inc.held = s.inc.held ∧ (s.setIncident i v).platHeld = s.platHeld ∧ (s.setIncident i v).inc.headway = s.inc.headway ∧ (s.setIncident i v).platHeadway = s.platHeadway ∧ (s.setIncident i v).com = s.com ∧ (s.setIncident i v).station = s.station ∧ (s.setIncident i v).template = s.template ∧ (s.setIncident i v).zone = s.zone ∧ (s.setIncident i v).arming = s.arming ∧ (s.setIncident i v).fieldPort = s.fieldPort ∧ (s.setIncident i v).consolePort = s.consolePort := by
  refine ⟨rfl, rfl, rfl, rfl, rfl, rfl, rfl, rfl, rfl, rfl, rfl, rfl, rfl, rfl, rfl, rfl, rfl, rfl, rfl, rfl, rfl, rfl, rfl, rfl, rfl, rfl, rfl, rfl, rfl, rfl, rfl, rfl, rfl, rfl, rfl, rfl, rfl, rfl, rfl, rfl⟩

/-- A record read after it is written (incNotice). -/
theorem State.incNotice_setIncNotice (s : State) (i j : Nat) (v : Option IncNotice) : (s.setIncNotice i v).incNotice j = if j = i then v else s.incNotice j := Tab.get_set ..
@[simp] theorem State.incNotice_setIncNotice_self (s : State) (i : Nat) (v : Option IncNotice) : (s.setIncNotice i v).incNotice i = v := Tab.get_set_self ..
theorem State.incNotice_setIncNotice_ne (s : State) {i j : Nat} (v : Option IncNotice) (h : j ≠ i) : (s.setIncNotice i v).incNotice j = s.incNotice j := Tab.get_set_ne _ _ _ h
theorem State.setIncNotice_table (s : State) (i : Nat) (v : Option IncNotice) : (s.setIncNotice i v).inc.notices = Tab.set none s.inc.notices i v := rfl
theorem State.setIncNotice_inc (s : State) (i : Nat) (v : Option IncNotice) : (s.setIncNotice i v).inc = { s.inc with notices := Tab.set none s.inc.notices i v } := rfl
@[simp] theorem State.setIncNotice_keeps (s : State) (i : Nat) (v : Option IncNotice) :
    (s.setIncNotice i v).pending = s.pending ∧ (s.setIncNotice i v).resetHeld = s.resetHeld ∧ (s.setIncNotice i v).event = s.event ∧ (s.setIncNotice i v).hnd = s.hnd ∧ (s.setIncNotice i v).cls = s.cls ∧ (s.setIncNotice i v).unit = s.unit ∧ (s.setIncNotice i v).console = s.console ∧ (s.setIncNotice i v).tim = s.tim ∧ (s.setIncNotice i v).supervision = s.supervision ∧ (s.setIncNotice i v).reg = s.reg ∧ (s.setIncNotice i v).slot = s.slot ∧ (s.setIncNotice i v).trainNotice = s.trainNotice ∧ (s.setIncNotice i v).plat = s.plat ∧ (s.setIncNotice i v).pow = s.pow ∧ (s.setIncNotice i v).feeder = s.feeder ∧ (s.setIncNotice i v).sect = s.sect ∧ (s.setIncNotice i v).pool = s.pool ∧ (s.setIncNotice i v).inc.kinds = s.inc.kinds ∧ (s.setIncNotice i v).kind = s.kind ∧ (s.setIncNotice i v).inc.entries = s.inc.entries ∧ (s.setIncNotice i v).incident = s.incident ∧ (s.setIncNotice i v).inc.cleared = s.inc.cleared ∧ (s.setIncNotice i v).inc.nextNumber = s.inc.nextNumber ∧ (s.setIncNotice i v).inc.overflow = s.inc.overflow ∧ (s.setIncNotice i v).inc.order = s.inc.order ∧ (s.setIncNotice i v).inc.interlock = s.inc.interlock ∧ (s.setIncNotice i v).interlocked = s.interlocked ∧ (s.setIncNotice i v).inc.fraction = s.inc.fraction ∧ (s.setIncNotice i v).fraction = s.fraction ∧ (s.setIncNotice i v).inc.held = s.inc.held ∧ (s.setIncNotice i v).platHeld = s.platHeld ∧ (s.setIncNotice i v).inc.headway = s.inc.headway ∧ (s.setIncNotice i v).platHeadway = s.platHeadway ∧ (s.setIncNotice i v).com = s.com ∧ (s.setIncNotice i v).station = s.station ∧ (s.setIncNotice i v).template = s.template ∧ (s.setIncNotice i v).zone = s.zone ∧ (s.setIncNotice i v).arming = s.arming ∧ (s.setIncNotice i v).fieldPort = s.fieldPort ∧ (s.setIncNotice i v).consolePort = s.consolePort := by
  refine ⟨rfl, rfl, rfl, rfl, rfl, rfl, rfl, rfl, rfl, rfl, rfl, rfl, rfl, rfl, rfl, rfl, rfl, rfl, rfl, rfl, rfl, rfl, rfl, rfl, rfl, rfl, rfl, rfl, rfl, rfl, rfl, rfl, rfl, rfl, rfl, rfl, rfl, rfl, rfl, rfl⟩

/-- A record read after it is written (station). -/
theorem State.station_setStation (s : State) (i j : Nat) (v : Option Nat) : (s.setStation i v).station j = if j = i then v else s.station j := Tab.get_set ..
@[simp] theorem State.station_setStation_self (s : State) (i : Nat) (v : Option Nat) : (s.setStation i v).station i = v := Tab.get_set_self ..
theorem State.station_setStation_ne (s : State) {i j : Nat} (v : Option Nat) (h : j ≠ i) : (s.setStation i v).station j = s.station j := Tab.get_set_ne _ _ _ h
theorem State.setStation_table (s : State) (i : Nat) (v : Option Nat) : (s.setStation i v).com.stations = Tab.set none s.com.stations i v := rfl
theorem State.setStation_com (s : State) (i : Nat) (v : Option Nat) : (s.setStation i v).com = { s.com with stations := Tab.set none s.com.stations i v } := rfl
@[simp] theorem State.setStation_keeps (s : State) (i : Nat) (v : Option Nat) :
    (s.setStation i v).pending = s.pending ∧ (s.setStation i v).resetHeld = s.resetHeld ∧ (s.setStation i v).event = s.event ∧ (s.setStation i v).hnd = s.hnd ∧ (s.setStation i v).cls = s.cls ∧ (s.setStation i v).unit = s.unit ∧ (s.setStation i v).console = s.console ∧ (s.setStation i v).tim = s.tim ∧ (s.setStation i v).supervision = s.supervision ∧ (s.setStation i v).reg = s.reg ∧ (s.setStation i v).slot = s.slot ∧ (s.setStation i v).trainNotice = s.trainNotice ∧ (s.setStation i v).plat = s.plat ∧ (s.setStation i v).pow = s.pow ∧ (s.setStation i v).feeder = s.feeder ∧ (s.setStation i v).sect = s.sect ∧ (s.setStation i v).pool = s.pool ∧ (s.setStation i v).inc = s.inc ∧ (s.setStation i v).kind = s.kind ∧ (s.setStation i v).incident = s.incident ∧ (s.setStation i v).incNotice = s.incNotice ∧ (s.setStation i v).interlocked = s.interlocked ∧ (s.setStation i v).fraction = s.fraction ∧ (s.setStation i v).platHeld = s.platHeld ∧ (s.setStation i v).platHeadway = s.platHeadway ∧ (s.setStation i v).com.templates = s.com.templates ∧ (s.setStation i v).template = s.template ∧ (s.setStation i v).com.zones = s.com.zones ∧ (s.setStation i v).zone = s.zone ∧ (s.setStation i v).com.armings = s.com.armings ∧ (s.setStation i v).arming = s.arming ∧ (s.setStation i v).com.zoneDrops = s.com.zoneDrops ∧ (s.setStation i v).fieldPort = s.fieldPort ∧ (s.setStation i v).consolePort = s.consolePort := by
  refine ⟨rfl, rfl, rfl, rfl, rfl, rfl, rfl, rfl, rfl, rfl, rfl, rfl, rfl, rfl, rfl, rfl, rfl, rfl, rfl, rfl, rfl, rfl, rfl, rfl, rfl, rfl, rfl, rfl, rfl, rfl, rfl, rfl, rfl, rfl⟩

/-- A record read after it is written (template). -/
theorem State.template_setTemplate (s : State) (i j : Nat) (v : Option (List Element)) : (s.setTemplate i v).template j = if j = i then v else s.template j := Tab.get_set ..
@[simp] theorem State.template_setTemplate_self (s : State) (i : Nat) (v : Option (List Element)) : (s.setTemplate i v).template i = v := Tab.get_set_self ..
theorem State.template_setTemplate_ne (s : State) {i j : Nat} (v : Option (List Element)) (h : j ≠ i) : (s.setTemplate i v).template j = s.template j := Tab.get_set_ne _ _ _ h
theorem State.setTemplate_table (s : State) (i : Nat) (v : Option (List Element)) : (s.setTemplate i v).com.templates = Tab.set none s.com.templates i v := rfl
theorem State.setTemplate_com (s : State) (i : Nat) (v : Option (List Element)) : (s.setTemplate i v).com = { s.com with templates := Tab.set none s.com.templates i v } := rfl
@[simp] theorem State.setTemplate_keeps (s : State) (i : Nat) (v : Option (List Element)) :
    (s.setTemplate i v).pending = s.pending ∧ (s.setTemplate i v).resetHeld = s.resetHeld ∧ (s.setTemplate i v).event = s.event ∧ (s.setTemplate i v).hnd = s.hnd ∧ (s.setTemplate i v).cls = s.cls ∧ (s.setTemplate i v).unit = s.unit ∧ (s.setTemplate i v).console = s.console ∧ (s.setTemplate i v).tim = s.tim ∧ (s.setTemplate i v).supervision = s.supervision ∧ (s.setTemplate i v).reg = s.reg ∧ (s.setTemplate i v).slot = s.slot ∧ (s.setTemplate i v).trainNotice = s.trainNotice ∧ (s.setTemplate i v).plat = s.plat ∧ (s.setTemplate i v).pow = s.pow ∧ (s.setTemplate i v).feeder = s.feeder ∧ (s.setTemplate i v).sect = s.sect ∧ (s.setTemplate i v).pool = s.pool ∧ (s.setTemplate i v).inc = s.inc ∧ (s.setTemplate i v).kind = s.kind ∧ (s.setTemplate i v).incident = s.incident ∧ (s.setTemplate i v).incNotice = s.incNotice ∧ (s.setTemplate i v).interlocked = s.interlocked ∧ (s.setTemplate i v).fraction = s.fraction ∧ (s.setTemplate i v).platHeld = s.platHeld ∧ (s.setTemplate i v).platHeadway = s.platHeadway ∧ (s.setTemplate i v).com.stations = s.com.stations ∧ (s.setTemplate i v).station = s.station ∧ (s.setTemplate i v).com.zones = s.com.zones ∧ (s.setTemplate i v).zone = s.zone ∧ (s.setTemplate i v).com.armings = s.com.armings ∧ (s.setTemplate i v).arming = s.arming ∧ (s.setTemplate i v).com.zoneDrops = s.com.zoneDrops ∧ (s.setTemplate i v).fieldPort = s.fieldPort ∧ (s.setTemplate i v).consolePort = s.consolePort := by
  refine ⟨rfl, rfl, rfl, rfl, rfl, rfl, rfl, rfl, rfl, rfl, rfl, rfl, rfl, rfl, rfl, rfl, rfl, rfl, rfl, rfl, rfl, rfl, rfl, rfl, rfl, rfl, rfl, rfl, rfl, rfl, rfl, rfl, rfl, rfl⟩

/-- A record read after it is written (zone). -/
theorem State.zone_setZone (s : State) (i j : Nat) (v : Zone) : (s.setZone i v).zone j = if j = i then v else s.zone j := Tab.get_set ..
@[simp] theorem State.zone_setZone_self (s : State) (i : Nat) (v : Zone) : (s.setZone i v).zone i = v := Tab.get_set_self ..
theorem State.zone_setZone_ne (s : State) {i j : Nat} (v : Zone) (h : j ≠ i) : (s.setZone i v).zone j = s.zone j := Tab.get_set_ne _ _ _ h
theorem State.setZone_table (s : State) (i : Nat) (v : Zone) : (s.setZone i v).com.zones = Tab.set {} s.com.zones i v := rfl
theorem State.setZone_com (s : State) (i : Nat) (v : Zone) : (s.setZone i v).com = { s.com with zones := Tab.set {} s.com.zones i v } := rfl
@[simp] theorem State.setZone_keeps (s : State) (i : Nat) (v : Zone) :
    (s.setZone i v).pending = s.pending ∧ (s.setZone i v).resetHeld = s.resetHeld ∧ (s.setZone i v).event = s.event ∧ (s.setZone i v).hnd = s.hnd ∧ (s.setZone i v).cls = s.cls ∧ (s.setZone i v).unit = s.unit ∧ (s.setZone i v).console = s.console ∧ (s.setZone i v).tim = s.tim ∧ (s.setZone i v).supervision = s.supervision ∧ (s.setZone i v).reg = s.reg ∧ (s.setZone i v).slot = s.slot ∧ (s.setZone i v).trainNotice = s.trainNotice ∧ (s.setZone i v).plat = s.plat ∧ (s.setZone i v).pow = s.pow ∧ (s.setZone i v).feeder = s.feeder ∧ (s.setZone i v).sect = s.sect ∧ (s.setZone i v).pool = s.pool ∧ (s.setZone i v).inc = s.inc ∧ (s.setZone i v).kind = s.kind ∧ (s.setZone i v).incident = s.incident ∧ (s.setZone i v).incNotice = s.incNotice ∧ (s.setZone i v).interlocked = s.interlocked ∧ (s.setZone i v).fraction = s.fraction ∧ (s.setZone i v).platHeld = s.platHeld ∧ (s.setZone i v).platHeadway = s.platHeadway ∧ (s.setZone i v).com.stations = s.com.stations ∧ (s.setZone i v).station = s.station ∧ (s.setZone i v).com.templates = s.com.templates ∧ (s.setZone i v).template = s.template ∧ (s.setZone i v).com.armings = s.com.armings ∧ (s.setZone i v).arming = s.arming ∧ (s.setZone i v).com.zoneDrops = s.com.zoneDrops ∧ (s.setZone i v).fieldPort = s.fieldPort ∧ (s.setZone i v).consolePort = s.consolePort := by
  refine ⟨rfl, rfl, rfl, rfl, rfl, rfl, rfl, rfl, rfl, rfl, rfl, rfl, rfl, rfl, rfl, rfl, rfl, rfl, rfl, rfl, rfl, rfl, rfl, rfl, rfl, rfl, rfl, rfl, rfl, rfl, rfl, rfl, rfl, rfl⟩

/-- A record read after it is written (arming). -/
theorem State.arming_setArming (s : State) (i j : Nat) (v : Arming) : (s.setArming i v).arming j = if j = i then v else s.arming j := Tab.get_set ..
@[simp] theorem State.arming_setArming_self (s : State) (i : Nat) (v : Arming) : (s.setArming i v).arming i = v := Tab.get_set_self ..
theorem State.arming_setArming_ne (s : State) {i j : Nat} (v : Arming) (h : j ≠ i) : (s.setArming i v).arming j = s.arming j := Tab.get_set_ne _ _ _ h
theorem State.setArming_table (s : State) (i : Nat) (v : Arming) : (s.setArming i v).com.armings = Tab.set {} s.com.armings i v := rfl
theorem State.setArming_com (s : State) (i : Nat) (v : Arming) : (s.setArming i v).com = { s.com with armings := Tab.set {} s.com.armings i v } := rfl
@[simp] theorem State.setArming_keeps (s : State) (i : Nat) (v : Arming) :
    (s.setArming i v).pending = s.pending ∧ (s.setArming i v).resetHeld = s.resetHeld ∧ (s.setArming i v).event = s.event ∧ (s.setArming i v).hnd = s.hnd ∧ (s.setArming i v).cls = s.cls ∧ (s.setArming i v).unit = s.unit ∧ (s.setArming i v).console = s.console ∧ (s.setArming i v).tim = s.tim ∧ (s.setArming i v).supervision = s.supervision ∧ (s.setArming i v).reg = s.reg ∧ (s.setArming i v).slot = s.slot ∧ (s.setArming i v).trainNotice = s.trainNotice ∧ (s.setArming i v).plat = s.plat ∧ (s.setArming i v).pow = s.pow ∧ (s.setArming i v).feeder = s.feeder ∧ (s.setArming i v).sect = s.sect ∧ (s.setArming i v).pool = s.pool ∧ (s.setArming i v).inc = s.inc ∧ (s.setArming i v).kind = s.kind ∧ (s.setArming i v).incident = s.incident ∧ (s.setArming i v).incNotice = s.incNotice ∧ (s.setArming i v).interlocked = s.interlocked ∧ (s.setArming i v).fraction = s.fraction ∧ (s.setArming i v).platHeld = s.platHeld ∧ (s.setArming i v).platHeadway = s.platHeadway ∧ (s.setArming i v).com.stations = s.com.stations ∧ (s.setArming i v).station = s.station ∧ (s.setArming i v).com.templates = s.com.templates ∧ (s.setArming i v).template = s.template ∧ (s.setArming i v).com.zones = s.com.zones ∧ (s.setArming i v).zone = s.zone ∧ (s.setArming i v).com.zoneDrops = s.com.zoneDrops ∧ (s.setArming i v).fieldPort = s.fieldPort ∧ (s.setArming i v).consolePort = s.consolePort := by
  refine ⟨rfl, rfl, rfl, rfl, rfl, rfl, rfl, rfl, rfl, rfl, rfl, rfl, rfl, rfl, rfl, rfl, rfl, rfl, rfl, rfl, rfl, rfl, rfl, rfl, rfl, rfl, rfl, rfl, rfl, rfl, rfl, rfl, rfl, rfl⟩


/-! ## Records changed in place -/

theorem State.slot_modSlot (s : State) (i j : Nat) (f : Slot → Slot) :
    (s.modSlot i f).slot j = if j = i then f (s.slot i) else s.slot j := Tab.get_set ..
@[simp] theorem State.slot_modSlot_self (s : State) (i : Nat) (f : Slot → Slot) : (s.modSlot i f).slot i = f (s.slot i) := Tab.get_set_self ..
theorem State.slot_modSlot_ne (s : State) {i j : Nat} (f : Slot → Slot) (h : j ≠ i) : (s.modSlot i f).slot j = s.slot j := Tab.get_set_ne _ _ _ h
@[simp] theorem State.modSlot_keeps (s : State) (i : Nat) (f : Slot → Slot) :
    (s.modSlot i f).pending = s.pending ∧ (s.modSlot i f).resetHeld = s.resetHeld ∧ (s.modSlot i f).event = s.event ∧ (s.modSlot i f).hnd = s.hnd ∧ (s.modSlot i f).cls = s.cls ∧ (s.modSlot i f).unit = s.unit ∧ (s.modSlot i f).console = s.console ∧ (s.modSlot i f).tim = s.tim ∧ (s.modSlot i f).supervision = s.supervision ∧ (s.modSlot i f).reg.notices = s.reg.notices ∧ (s.modSlot i f).trainNotice = s.trainNotice ∧ (s.modSlot i f).reg.platforms = s.reg.platforms ∧ (s.modSlot i f).plat = s.plat ∧ (s.modSlot i f).reg.outcomes = s.reg.outcomes ∧ (s.modSlot i f).reg.outcomeLoss = s.reg.outcomeLoss ∧ (s.modSlot i f).pow = s.pow ∧ (s.modSlot i f).feeder = s.feeder ∧ (s.modSlot i f).sect = s.sect ∧ (s.modSlot i f).pool = s.pool ∧ (s.modSlot i f).inc = s.inc ∧ (s.modSlot i f).kind = s.kind ∧ (s.modSlot i f).incident = s.incident ∧ (s.modSlot i f).incNotice = s.incNotice ∧ (s.modSlot i f).interlocked = s.interlocked ∧ (s.modSlot i f).fraction = s.fraction ∧ (s.modSlot i f).platHeld = s.platHeld ∧ (s.modSlot i f).platHeadway = s.platHeadway ∧ (s.modSlot i f).com = s.com ∧ (s.modSlot i f).station = s.station ∧ (s.modSlot i f).template = s.template ∧ (s.modSlot i f).zone = s.zone ∧ (s.modSlot i f).arming = s.arming ∧ (s.modSlot i f).fieldPort = s.fieldPort ∧ (s.modSlot i f).consolePort = s.consolePort := by
  refine ⟨rfl, rfl, rfl, rfl, rfl, rfl, rfl, rfl, rfl, rfl, rfl, rfl, rfl, rfl, rfl, rfl, rfl, rfl, rfl, rfl, rfl, rfl, rfl, rfl, rfl, rfl, rfl, rfl, rfl, rfl, rfl, rfl, rfl, rfl⟩

theorem State.plat_modPlat (s : State) (i j : Nat) (f : Platform → Platform) :
    (s.modPlat i f).plat j = if j = i then f (s.plat i) else s.plat j := Tab.get_set ..
@[simp] theorem State.plat_modPlat_self (s : State) (i : Nat) (f : Platform → Platform) : (s.modPlat i f).plat i = f (s.plat i) := Tab.get_set_self ..
theorem State.plat_modPlat_ne (s : State) {i j : Nat} (f : Platform → Platform) (h : j ≠ i) : (s.modPlat i f).plat j = s.plat j := Tab.get_set_ne _ _ _ h
@[simp] theorem State.modPlat_keeps (s : State) (i : Nat) (f : Platform → Platform) :
    (s.modPlat i f).pending = s.pending ∧ (s.modPlat i f).resetHeld = s.resetHeld ∧ (s.modPlat i f).event = s.event ∧ (s.modPlat i f).hnd = s.hnd ∧ (s.modPlat i f).cls = s.cls ∧ (s.modPlat i f).unit = s.unit ∧ (s.modPlat i f).console = s.console ∧ (s.modPlat i f).tim = s.tim ∧ (s.modPlat i f).supervision = s.supervision ∧ (s.modPlat i f).reg.trains = s.reg.trains ∧ (s.modPlat i f).slot = s.slot ∧ (s.modPlat i f).reg.notices = s.reg.notices ∧ (s.modPlat i f).trainNotice = s.trainNotice ∧ (s.modPlat i f).reg.outcomes = s.reg.outcomes ∧ (s.modPlat i f).reg.outcomeLoss = s.reg.outcomeLoss ∧ (s.modPlat i f).pow = s.pow ∧ (s.modPlat i f).feeder = s.feeder ∧ (s.modPlat i f).sect = s.sect ∧ (s.modPlat i f).pool = s.pool ∧ (s.modPlat i f).inc = s.inc ∧ (s.modPlat i f).kind = s.kind ∧ (s.modPlat i f).incident = s.incident ∧ (s.modPlat i f).incNotice = s.incNotice ∧ (s.modPlat i f).interlocked = s.interlocked ∧ (s.modPlat i f).fraction = s.fraction ∧ (s.modPlat i f).platHeld = s.platHeld ∧ (s.modPlat i f).platHeadway = s.platHeadway ∧ (s.modPlat i f).com = s.com ∧ (s.modPlat i f).station = s.station ∧ (s.modPlat i f).template = s.template ∧ (s.modPlat i f).zone = s.zone ∧ (s.modPlat i f).arming = s.arming ∧ (s.modPlat i f).fieldPort = s.fieldPort ∧ (s.modPlat i f).consolePort = s.consolePort := by
  refine ⟨rfl, rfl, rfl, rfl, rfl, rfl, rfl, rfl, rfl, rfl, rfl, rfl, rfl, rfl, rfl, rfl, rfl, rfl, rfl, rfl, rfl, rfl, rfl, rfl, rfl, rfl, rfl, rfl, rfl, rfl, rfl, rfl, rfl, rfl⟩

theorem State.feeder_modFeeder (s : State) (i j : Nat) (f : Feeder → Feeder) :
    (s.modFeeder i f).feeder j = if j = i then f (s.feeder i) else s.feeder j := Tab.get_set ..
@[simp] theorem State.feeder_modFeeder_self (s : State) (i : Nat) (f : Feeder → Feeder) : (s.modFeeder i f).feeder i = f (s.feeder i) := Tab.get_set_self ..
theorem State.feeder_modFeeder_ne (s : State) {i j : Nat} (f : Feeder → Feeder) (h : j ≠ i) : (s.modFeeder i f).feeder j = s.feeder j := Tab.get_set_ne _ _ _ h
@[simp] theorem State.modFeeder_keeps (s : State) (i : Nat) (f : Feeder → Feeder) :
    (s.modFeeder i f).pending = s.pending ∧ (s.modFeeder i f).resetHeld = s.resetHeld ∧ (s.modFeeder i f).event = s.event ∧ (s.modFeeder i f).hnd = s.hnd ∧ (s.modFeeder i f).cls = s.cls ∧ (s.modFeeder i f).unit = s.unit ∧ (s.modFeeder i f).console = s.console ∧ (s.modFeeder i f).tim = s.tim ∧ (s.modFeeder i f).supervision = s.supervision ∧ (s.modFeeder i f).reg = s.reg ∧ (s.modFeeder i f).slot = s.slot ∧ (s.modFeeder i f).trainNotice = s.trainNotice ∧ (s.modFeeder i f).plat = s.plat ∧ (s.modFeeder i f).pow.sections = s.pow.sections ∧ (s.modFeeder i f).sect = s.sect ∧ (s.modFeeder i f).pow.pool = s.pow.pool ∧ (s.modFeeder i f).pool = s.pool ∧ (s.modFeeder i f).pow.demand0 = s.pow.demand0 ∧ (s.modFeeder i f).pow.demand1 = s.pow.demand1 ∧ (s.modFeeder i f).pow.demand2 = s.pow.demand2 ∧ (s.modFeeder i f).pow.demand3 = s.pow.demand3 ∧ (s.modFeeder i f).inc = s.inc ∧ (s.modFeeder i f).kind = s.kind ∧ (s.modFeeder i f).incident = s.incident ∧ (s.modFeeder i f).incNotice = s.incNotice ∧ (s.modFeeder i f).interlocked = s.interlocked ∧ (s.modFeeder i f).fraction = s.fraction ∧ (s.modFeeder i f).platHeld = s.platHeld ∧ (s.modFeeder i f).platHeadway = s.platHeadway ∧ (s.modFeeder i f).com = s.com ∧ (s.modFeeder i f).station = s.station ∧ (s.modFeeder i f).template = s.template ∧ (s.modFeeder i f).zone = s.zone ∧ (s.modFeeder i f).arming = s.arming ∧ (s.modFeeder i f).fieldPort = s.fieldPort ∧ (s.modFeeder i f).consolePort = s.consolePort := by
  refine ⟨rfl, rfl, rfl, rfl, rfl, rfl, rfl, rfl, rfl, rfl, rfl, rfl, rfl, rfl, rfl, rfl, rfl, rfl, rfl, rfl, rfl, rfl, rfl, rfl, rfl, rfl, rfl, rfl, rfl, rfl, rfl, rfl, rfl, rfl, rfl, rfl⟩

theorem State.sect_modSect (s : State) (i j : Nat) (f : Sect → Sect) :
    (s.modSect i f).sect j = if j = i then f (s.sect i) else s.sect j := Tab.get_set ..
@[simp] theorem State.sect_modSect_self (s : State) (i : Nat) (f : Sect → Sect) : (s.modSect i f).sect i = f (s.sect i) := Tab.get_set_self ..
theorem State.sect_modSect_ne (s : State) {i j : Nat} (f : Sect → Sect) (h : j ≠ i) : (s.modSect i f).sect j = s.sect j := Tab.get_set_ne _ _ _ h
@[simp] theorem State.modSect_keeps (s : State) (i : Nat) (f : Sect → Sect) :
    (s.modSect i f).pending = s.pending ∧ (s.modSect i f).resetHeld = s.resetHeld ∧ (s.modSect i f).event = s.event ∧ (s.modSect i f).hnd = s.hnd ∧ (s.modSect i f).cls = s.cls ∧ (s.modSect i f).unit = s.unit ∧ (s.modSect i f).console = s.console ∧ (s.modSect i f).tim = s.tim ∧ (s.modSect i f).supervision = s.supervision ∧ (s.modSect i f).reg = s.reg ∧ (s.modSect i f).slot = s.slot ∧ (s.modSect i f).trainNotice = s.trainNotice ∧ (s.modSect i f).plat = s.plat ∧ (s.modSect i f).pow.feeders = s.pow.feeders ∧ (s.modSect i f).feeder = s.feeder ∧ (s.modSect i f).pow.pool = s.pow.pool ∧ (s.modSect i f).pool = s.pool ∧ (s.modSect i f).pow.demand0 = s.pow.demand0 ∧ (s.modSect i f).pow.demand1 = s.pow.demand1 ∧ (s.modSect i f).pow.demand2 = s.pow.demand2 ∧ (s.modSect i f).pow.demand3 = s.pow.demand3 ∧ (s.modSect i f).inc = s.inc ∧ (s.modSect i f).kind = s.kind ∧ (s.modSect i f).incident = s.incident ∧ (s.modSect i f).incNotice = s.incNotice ∧ (s.modSect i f).interlocked = s.interlocked ∧ (s.modSect i f).fraction = s.fraction ∧ (s.modSect i f).platHeld = s.platHeld ∧ (s.modSect i f).platHeadway = s.platHeadway ∧ (s.modSect i f).com = s.com ∧ (s.modSect i f).station = s.station ∧ (s.modSect i f).template = s.template ∧ (s.modSect i f).zone = s.zone ∧ (s.modSect i f).arming = s.arming ∧ (s.modSect i f).fieldPort = s.fieldPort ∧ (s.modSect i f).consolePort = s.consolePort := by
  refine ⟨rfl, rfl, rfl, rfl, rfl, rfl, rfl, rfl, rfl, rfl, rfl, rfl, rfl, rfl, rfl, rfl, rfl, rfl, rfl, rfl, rfl, rfl, rfl, rfl, rfl, rfl, rfl, rfl, rfl, rfl, rfl, rfl, rfl, rfl, rfl, rfl⟩

theorem State.zone_modZone (s : State) (i j : Nat) (f : Zone → Zone) :
    (s.modZone i f).zone j = if j = i then f (s.zone i) else s.zone j := Tab.get_set ..
@[simp] theorem State.zone_modZone_self (s : State) (i : Nat) (f : Zone → Zone) : (s.modZone i f).zone i = f (s.zone i) := Tab.get_set_self ..
theorem State.zone_modZone_ne (s : State) {i j : Nat} (f : Zone → Zone) (h : j ≠ i) : (s.modZone i f).zone j = s.zone j := Tab.get_set_ne _ _ _ h
@[simp] theorem State.modZone_keeps (s : State) (i : Nat) (f : Zone → Zone) :
    (s.modZone i f).pending = s.pending ∧ (s.modZone i f).resetHeld = s.resetHeld ∧ (s.modZone i f).event = s.event ∧ (s.modZone i f).hnd = s.hnd ∧ (s.modZone i f).cls = s.cls ∧ (s.modZone i f).unit = s.unit ∧ (s.modZone i f).console = s.console ∧ (s.modZone i f).tim = s.tim ∧ (s.modZone i f).supervision = s.supervision ∧ (s.modZone i f).reg = s.reg ∧ (s.modZone i f).slot = s.slot ∧ (s.modZone i f).trainNotice = s.trainNotice ∧ (s.modZone i f).plat = s.plat ∧ (s.modZone i f).pow = s.pow ∧ (s.modZone i f).feeder = s.feeder ∧ (s.modZone i f).sect = s.sect ∧ (s.modZone i f).pool = s.pool ∧ (s.modZone i f).inc = s.inc ∧ (s.modZone i f).kind = s.kind ∧ (s.modZone i f).incident = s.incident ∧ (s.modZone i f).incNotice = s.incNotice ∧ (s.modZone i f).interlocked = s.interlocked ∧ (s.modZone i f).fraction = s.fraction ∧ (s.modZone i f).platHeld = s.platHeld ∧ (s.modZone i f).platHeadway = s.platHeadway ∧ (s.modZone i f).com.stations = s.com.stations ∧ (s.modZone i f).station = s.station ∧ (s.modZone i f).com.templates = s.com.templates ∧ (s.modZone i f).template = s.template ∧ (s.modZone i f).com.armings = s.com.armings ∧ (s.modZone i f).arming = s.arming ∧ (s.modZone i f).com.zoneDrops = s.com.zoneDrops ∧ (s.modZone i f).fieldPort = s.fieldPort ∧ (s.modZone i f).consolePort = s.consolePort := by
  refine ⟨rfl, rfl, rfl, rfl, rfl, rfl, rfl, rfl, rfl, rfl, rfl, rfl, rfl, rfl, rfl, rfl, rfl, rfl, rfl, rfl, rfl, rfl, rfl, rfl, rfl, rfl, rfl, rfl, rfl, rfl, rfl, rfl, rfl, rfl⟩

end Sys2Proof.Machine
end

