-- ==== Sys2Proof/Laws/Keeps.lean ====
section
/-! SUPPORT. What each shared operation leaves alone, one lemma per operation (`State.<operation>_keeps`): every block, table
and counter that the operation cannot change, as simp rules. A claim's frame is proved by citing these, not by unfolding. -/

set_option linter.unusedTactic false
set_option linter.unnecessarySeqFocus false
set_option linter.unreachableTactic false
set_option linter.unusedSimpArgs false

namespace Sys2Proof.Machine

/-! ## Folds -/

theorem State.foldl_keeps {α β : Type} {g : State → β} {f : State → α → State} (h : ∀ s a, g (f s a) = g s) (l : List α)
    (s : State) : g (l.foldl f s) = g s := by
  induction l generalizing s with
  | nil => rfl
  | cons a l ih => simp only [List.foldl_cons, ih, h]

@[simp] theorem State.foldl_pending {α : Type} {f : State → α → State} (h : ∀ s a, (f s a).pending = s.pending) (l : List α) (s : State) :
    (l.foldl f s).pending = s.pending := State.foldl_keeps (g := fun s => s.pending) h l s
@[simp] theorem State.foldl_resetHeld {α : Type} {f : State → α → State} (h : ∀ s a, (f s a).resetHeld = s.resetHeld) (l : List α) (s : State) :
    (l.foldl f s).resetHeld = s.resetHeld := State.foldl_keeps (g := fun s => s.resetHeld) h l s
@[simp] theorem State.foldl_event {α : Type} {f : State → α → State} (h : ∀ s a, (f s a).event = s.event) (l : List α) (s : State) :
    (l.foldl f s).event = s.event := State.foldl_keeps (g := fun s => s.event) h l s
@[simp] theorem State.foldl_hnd {α : Type} {f : State → α → State} (h : ∀ s a, (f s a).hnd = s.hnd) (l : List α) (s : State) :
    (l.foldl f s).hnd = s.hnd := State.foldl_keeps (g := fun s => s.hnd) h l s
@[simp] theorem State.foldl_cls {α : Type} {f : State → α → State} (h : ∀ s a, (f s a).cls = s.cls) (l : List α) (s : State) :
    (l.foldl f s).cls = s.cls := State.foldl_keeps (g := fun s => s.cls) h l s
@[simp] theorem State.foldl_tim {α : Type} {f : State → α → State} (h : ∀ s a, (f s a).tim = s.tim) (l : List α) (s : State) :
    (l.foldl f s).tim = s.tim := State.foldl_keeps (g := fun s => s.tim) h l s
@[simp] theorem State.foldl_reg {α : Type} {f : State → α → State} (h : ∀ s a, (f s a).reg = s.reg) (l : List α) (s : State) :
    (l.foldl f s).reg = s.reg := State.foldl_keeps (g := fun s => s.reg) h l s
@[simp] theorem State.foldl_pow {α : Type} {f : State → α → State} (h : ∀ s a, (f s a).pow = s.pow) (l : List α) (s : State) :
    (l.foldl f s).pow = s.pow := State.foldl_keeps (g := fun s => s.pow) h l s
@[simp] theorem State.foldl_inc {α : Type} {f : State → α → State} (h : ∀ s a, (f s a).inc = s.inc) (l : List α) (s : State) :
    (l.foldl f s).inc = s.inc := State.foldl_keeps (g := fun s => s.inc) h l s
@[simp] theorem State.foldl_com {α : Type} {f : State → α → State} (h : ∀ s a, (f s a).com = s.com) (l : List α) (s : State) :
    (l.foldl f s).com = s.com := State.foldl_keeps (g := fun s => s.com) h l s
@[simp] theorem State.foldl_fieldPort {α : Type} {f : State → α → State} (h : ∀ s a, (f s a).fieldPort = s.fieldPort) (l : List α) (s : State) :
    (l.foldl f s).fieldPort = s.fieldPort := State.foldl_keeps (g := fun s => s.fieldPort) h l s
@[simp] theorem State.foldl_consolePort {α : Type} {f : State → α → State} (h : ∀ s a, (f s a).consolePort = s.consolePort) (l : List α) (s : State) :
    (l.foldl f s).consolePort = s.consolePort := State.foldl_keeps (g := fun s => s.consolePort) h l s
@[simp] theorem State.foldl_hnd_op {α : Type} {f : State → α → State} (h : ∀ s a, (f s a).hnd.op = s.hnd.op) (l : List α) (s : State) :
    (l.foldl f s).hnd.op = s.hnd.op := State.foldl_keeps (g := fun s => s.hnd.op) h l s
@[simp] theorem State.foldl_hnd_replyHold {α : Type} {f : State → α → State} (h : ∀ s a, (f s a).hnd.replyHold = s.hnd.replyHold) (l : List α) (s : State) :
    (l.foldl f s).hnd.replyHold = s.hnd.replyHold := State.foldl_keeps (g := fun s => s.hnd.replyHold) h l s
@[simp] theorem State.foldl_cls_units {α : Type} {f : State → α → State} (h : ∀ s a, (f s a).cls.units = s.cls.units) (l : List α) (s : State) :
    (l.foldl f s).cls.units = s.cls.units := State.foldl_keeps (g := fun s => s.cls.units) h l s
@[simp] theorem State.foldl_cls_consoles {α : Type} {f : State → α → State} (h : ∀ s a, (f s a).cls.consoles = s.cls.consoles) (l : List α) (s : State) :
    (l.foldl f s).cls.consoles = s.cls.consoles := State.foldl_keeps (g := fun s => s.cls.consoles) h l s
@[simp] theorem State.foldl_cls_unknownSource {α : Type} {f : State → α → State} (h : ∀ s a, (f s a).cls.unknownSource = s.cls.unknownSource) (l : List α) (s : State) :
    (l.foldl f s).cls.unknownSource = s.cls.unknownSource := State.foldl_keeps (g := fun s => s.cls.unknownSource) h l s
@[simp] theorem State.foldl_cls_roleMismatch {α : Type} {f : State → α → State} (h : ∀ s a, (f s a).cls.roleMismatch = s.cls.roleMismatch) (l : List α) (s : State) :
    (l.foldl f s).cls.roleMismatch = s.cls.roleMismatch := State.foldl_keeps (g := fun s => s.cls.roleMismatch) h l s
@[simp] theorem State.foldl_tim_lineTime {α : Type} {f : State → α → State} (h : ∀ s a, (f s a).tim.lineTime = s.tim.lineTime) (l : List α) (s : State) :
    (l.foldl f s).tim.lineTime = s.tim.lineTime := State.foldl_keeps (g := fun s => s.tim.lineTime) h l s
@[simp] theorem State.foldl_tim_clockSet {α : Type} {f : State → α → State} (h : ∀ s a, (f s a).tim.clockSet = s.tim.clockSet) (l : List α) (s : State) :
    (l.foldl f s).tim.clockSet = s.tim.clockSet := State.foldl_keeps (g := fun s => s.tim.clockSet) h l s
@[simp] theorem State.foldl_tim_slew {α : Type} {f : State → α → State} (h : ∀ s a, (f s a).tim.slew = s.tim.slew) (l : List α) (s : State) :
    (l.foldl f s).tim.slew = s.tim.slew := State.foldl_keeps (g := fun s => s.tim.slew) h l s
@[simp] theorem State.foldl_tim_phase {α : Type} {f : State → α → State} (h : ∀ s a, (f s a).tim.phase = s.tim.phase) (l : List α) (s : State) :
    (l.foldl f s).tim.phase = s.tim.phase := State.foldl_keeps (g := fun s => s.tim.phase) h l s
@[simp] theorem State.foldl_tim_interval {α : Type} {f : State → α → State} (h : ∀ s a, (f s a).tim.interval = s.tim.interval) (l : List α) (s : State) :
    (l.foldl f s).tim.interval = s.tim.interval := State.foldl_keeps (g := fun s => s.tim.interval) h l s
@[simp] theorem State.foldl_tim_supervision {α : Type} {f : State → α → State} (h : ∀ s a, (f s a).tim.supervision = s.tim.supervision) (l : List α) (s : State) :
    (l.foldl f s).tim.supervision = s.tim.supervision := State.foldl_keeps (g := fun s => s.tim.supervision) h l s
@[simp] theorem State.foldl_tim_waiting {α : Type} {f : State → α → State} (h : ∀ s a, (f s a).tim.waiting = s.tim.waiting) (l : List α) (s : State) :
    (l.foldl f s).tim.waiting = s.tim.waiting := State.foldl_keeps (g := fun s => s.tim.waiting) h l s
@[simp] theorem State.foldl_tim_correctionDue {α : Type} {f : State → α → State} (h : ∀ s a, (f s a).tim.correctionDue = s.tim.correctionDue) (l : List α) (s : State) :
    (l.foldl f s).tim.correctionDue = s.tim.correctionDue := State.foldl_keeps (g := fun s => s.tim.correctionDue) h l s
@[simp] theorem State.foldl_tim_withhold {α : Type} {f : State → α → State} (h : ∀ s a, (f s a).tim.withhold = s.tim.withhold) (l : List α) (s : State) :
    (l.foldl f s).tim.withhold = s.tim.withhold := State.foldl_keeps (g := fun s => s.tim.withhold) h l s
@[simp] theorem State.foldl_tim_displayDue {α : Type} {f : State → α → State} (h : ∀ s a, (f s a).tim.displayDue = s.tim.displayDue) (l : List α) (s : State) :
    (l.foldl f s).tim.displayDue = s.tim.displayDue := State.foldl_keeps (g := fun s => s.tim.displayDue) h l s
@[simp] theorem State.foldl_tim_publishDue {α : Type} {f : State → α → State} (h : ∀ s a, (f s a).tim.publishDue = s.tim.publishDue) (l : List α) (s : State) :
    (l.foldl f s).tim.publishDue = s.tim.publishDue := State.foldl_keeps (g := fun s => s.tim.publishDue) h l s
@[simp] theorem State.foldl_reg_trains {α : Type} {f : State → α → State} (h : ∀ s a, (f s a).reg.trains = s.reg.trains) (l : List α) (s : State) :
    (l.foldl f s).reg.trains = s.reg.trains := State.foldl_keeps (g := fun s => s.reg.trains) h l s
@[simp] theorem State.foldl_reg_notices {α : Type} {f : State → α → State} (h : ∀ s a, (f s a).reg.notices = s.reg.notices) (l : List α) (s : State) :
    (l.foldl f s).reg.notices = s.reg.notices := State.foldl_keeps (g := fun s => s.reg.notices) h l s
@[simp] theorem State.foldl_reg_platforms {α : Type} {f : State → α → State} (h : ∀ s a, (f s a).reg.platforms = s.reg.platforms) (l : List α) (s : State) :
    (l.foldl f s).reg.platforms = s.reg.platforms := State.foldl_keeps (g := fun s => s.reg.platforms) h l s
@[simp] theorem State.foldl_reg_outcomes {α : Type} {f : State → α → State} (h : ∀ s a, (f s a).reg.outcomes = s.reg.outcomes) (l : List α) (s : State) :
    (l.foldl f s).reg.outcomes = s.reg.outcomes := State.foldl_keeps (g := fun s => s.reg.outcomes) h l s
@[simp] theorem State.foldl_reg_outcomeLoss {α : Type} {f : State → α → State} (h : ∀ s a, (f s a).reg.outcomeLoss = s.reg.outcomeLoss) (l : List α) (s : State) :
    (l.foldl f s).reg.outcomeLoss = s.reg.outcomeLoss := State.foldl_keeps (g := fun s => s.reg.outcomeLoss) h l s
@[simp] theorem State.foldl_pow_feeders {α : Type} {f : State → α → State} (h : ∀ s a, (f s a).pow.feeders = s.pow.feeders) (l : List α) (s : State) :
    (l.foldl f s).pow.feeders = s.pow.feeders := State.foldl_keeps (g := fun s => s.pow.feeders) h l s
@[simp] theorem State.foldl_pow_sections {α : Type} {f : State → α → State} (h : ∀ s a, (f s a).pow.sections = s.pow.sections) (l : List α) (s : State) :
    (l.foldl f s).pow.sections = s.pow.sections := State.foldl_keeps (g := fun s => s.pow.sections) h l s
@[simp] theorem State.foldl_pow_pool {α : Type} {f : State → α → State} (h : ∀ s a, (f s a).pow.pool = s.pow.pool) (l : List α) (s : State) :
    (l.foldl f s).pow.pool = s.pow.pool := State.foldl_keeps (g := fun s => s.pow.pool) h l s
@[simp] theorem State.foldl_pow_demand0 {α : Type} {f : State → α → State} (h : ∀ s a, (f s a).pow.demand0 = s.pow.demand0) (l : List α) (s : State) :
    (l.foldl f s).pow.demand0 = s.pow.demand0 := State.foldl_keeps (g := fun s => s.pow.demand0) h l s
@[simp] theorem State.foldl_pow_demand1 {α : Type} {f : State → α → State} (h : ∀ s a, (f s a).pow.demand1 = s.pow.demand1) (l : List α) (s : State) :
    (l.foldl f s).pow.demand1 = s.pow.demand1 := State.foldl_keeps (g := fun s => s.pow.demand1) h l s
@[simp] theorem State.foldl_pow_demand2 {α : Type} {f : State → α → State} (h : ∀ s a, (f s a).pow.demand2 = s.pow.demand2) (l : List α) (s : State) :
    (l.foldl f s).pow.demand2 = s.pow.demand2 := State.foldl_keeps (g := fun s => s.pow.demand2) h l s
@[simp] theorem State.foldl_pow_demand3 {α : Type} {f : State → α → State} (h : ∀ s a, (f s a).pow.demand3 = s.pow.demand3) (l : List α) (s : State) :
    (l.foldl f s).pow.demand3 = s.pow.demand3 := State.foldl_keeps (g := fun s => s.pow.demand3) h l s
@[simp] theorem State.foldl_inc_kinds {α : Type} {f : State → α → State} (h : ∀ s a, (f s a).inc.kinds = s.inc.kinds) (l : List α) (s : State) :
    (l.foldl f s).inc.kinds = s.inc.kinds := State.foldl_keeps (g := fun s => s.inc.kinds) h l s
@[simp] theorem State.foldl_inc_entries {α : Type} {f : State → α → State} (h : ∀ s a, (f s a).inc.entries = s.inc.entries) (l : List α) (s : State) :
    (l.foldl f s).inc.entries = s.inc.entries := State.foldl_keeps (g := fun s => s.inc.entries) h l s
@[simp] theorem State.foldl_inc_cleared {α : Type} {f : State → α → State} (h : ∀ s a, (f s a).inc.cleared = s.inc.cleared) (l : List α) (s : State) :
    (l.foldl f s).inc.cleared = s.inc.cleared := State.foldl_keeps (g := fun s => s.inc.cleared) h l s
@[simp] theorem State.foldl_inc_nextNumber {α : Type} {f : State → α → State} (h : ∀ s a, (f s a).inc.nextNumber = s.inc.nextNumber) (l : List α) (s : State) :
    (l.foldl f s).inc.nextNumber = s.inc.nextNumber := State.foldl_keeps (g := fun s => s.inc.nextNumber) h l s
@[simp] theorem State.foldl_inc_overflow {α : Type} {f : State → α → State} (h : ∀ s a, (f s a).inc.overflow = s.inc.overflow) (l : List α) (s : State) :
    (l.foldl f s).inc.overflow = s.inc.overflow := State.foldl_keeps (g := fun s => s.inc.overflow) h l s
@[simp] theorem State.foldl_inc_notices {α : Type} {f : State → α → State} (h : ∀ s a, (f s a).inc.notices = s.inc.notices) (l : List α) (s : State) :
    (l.foldl f s).inc.notices = s.inc.notices := State.foldl_keeps (g := fun s => s.inc.notices) h l s
@[simp] theorem State.foldl_inc_order {α : Type} {f : State → α → State} (h : ∀ s a, (f s a).inc.order = s.inc.order) (l : List α) (s : State) :
    (l.foldl f s).inc.order = s.inc.order := State.foldl_keeps (g := fun s => s.inc.order) h l s
@[simp] theorem State.foldl_inc_interlock {α : Type} {f : State → α → State} (h : ∀ s a, (f s a).inc.interlock = s.inc.interlock) (l : List α) (s : State) :
    (l.foldl f s).inc.interlock = s.inc.interlock := State.foldl_keeps (g := fun s => s.inc.interlock) h l s
@[simp] theorem State.foldl_inc_fraction {α : Type} {f : State → α → State} (h : ∀ s a, (f s a).inc.fraction = s.inc.fraction) (l : List α) (s : State) :
    (l.foldl f s).inc.fraction = s.inc.fraction := State.foldl_keeps (g := fun s => s.inc.fraction) h l s
@[simp] theorem State.foldl_inc_held {α : Type} {f : State → α → State} (h : ∀ s a, (f s a).inc.held = s.inc.held) (l : List α) (s : State) :
    (l.foldl f s).inc.held = s.inc.held := State.foldl_keeps (g := fun s => s.inc.held) h l s
@[simp] theorem State.foldl_inc_headway {α : Type} {f : State → α → State} (h : ∀ s a, (f s a).inc.headway = s.inc.headway) (l : List α) (s : State) :
    (l.foldl f s).inc.headway = s.inc.headway := State.foldl_keeps (g := fun s => s.inc.headway) h l s
@[simp] theorem State.foldl_com_stations {α : Type} {f : State → α → State} (h : ∀ s a, (f s a).com.stations = s.com.stations) (l : List α) (s : State) :
    (l.foldl f s).com.stations = s.com.stations := State.foldl_keeps (g := fun s => s.com.stations) h l s
@[simp] theorem State.foldl_com_templates {α : Type} {f : State → α → State} (h : ∀ s a, (f s a).com.templates = s.com.templates) (l : List α) (s : State) :
    (l.foldl f s).com.templates = s.com.templates := State.foldl_keeps (g := fun s => s.com.templates) h l s
@[simp] theorem State.foldl_com_zones {α : Type} {f : State → α → State} (h : ∀ s a, (f s a).com.zones = s.com.zones) (l : List α) (s : State) :
    (l.foldl f s).com.zones = s.com.zones := State.foldl_keeps (g := fun s => s.com.zones) h l s
@[simp] theorem State.foldl_com_armings {α : Type} {f : State → α → State} (h : ∀ s a, (f s a).com.armings = s.com.armings) (l : List α) (s : State) :
    (l.foldl f s).com.armings = s.com.armings := State.foldl_keeps (g := fun s => s.com.armings) h l s
@[simp] theorem State.foldl_com_zoneDrops {α : Type} {f : State → α → State} (h : ∀ s a, (f s a).com.zoneDrops = s.com.zoneDrops) (l : List α) (s : State) :
    (l.foldl f s).com.zoneDrops = s.com.zoneDrops := State.foldl_keeps (g := fun s => s.com.zoneDrops) h l s
@[simp] theorem State.foldl_unit {α : Type} {f : State → α → State} (h : ∀ s a, (f s a).unit = s.unit) (l : List α) (s : State) :
    (l.foldl f s).unit = s.unit := State.foldl_keeps (g := fun s => s.unit) h l s
@[simp] theorem State.foldl_console {α : Type} {f : State → α → State} (h : ∀ s a, (f s a).console = s.console) (l : List α) (s : State) :
    (l.foldl f s).console = s.console := State.foldl_keeps (g := fun s => s.console) h l s
@[simp] theorem State.foldl_supervision {α : Type} {f : State → α → State} (h : ∀ s a, (f s a).supervision = s.supervision) (l : List α) (s : State) :
    (l.foldl f s).supervision = s.supervision := State.foldl_keeps (g := fun s => s.supervision) h l s
@[simp] theorem State.foldl_slot {α : Type} {f : State → α → State} (h : ∀ s a, (f s a).slot = s.slot) (l : List α) (s : State) :
    (l.foldl f s).slot = s.slot := State.foldl_keeps (g := fun s => s.slot) h l s
@[simp] theorem State.foldl_trainNotice {α : Type} {f : State → α → State} (h : ∀ s a, (f s a).trainNotice = s.trainNotice) (l : List α) (s : State) :
    (l.foldl f s).trainNotice = s.trainNotice := State.foldl_keeps (g := fun s => s.trainNotice) h l s
@[simp] theorem State.foldl_plat {α : Type} {f : State → α → State} (h : ∀ s a, (f s a).plat = s.plat) (l : List α) (s : State) :
    (l.foldl f s).plat = s.plat := State.foldl_keeps (g := fun s => s.plat) h l s
@[simp] theorem State.foldl_feeder {α : Type} {f : State → α → State} (h : ∀ s a, (f s a).feeder = s.feeder) (l : List α) (s : State) :
    (l.foldl f s).feeder = s.feeder := State.foldl_keeps (g := fun s => s.feeder) h l s
@[simp] theorem State.foldl_sect {α : Type} {f : State → α → State} (h : ∀ s a, (f s a).sect = s.sect) (l : List α) (s : State) :
    (l.foldl f s).sect = s.sect := State.foldl_keeps (g := fun s => s.sect) h l s
@[simp] theorem State.foldl_pool {α : Type} {f : State → α → State} (h : ∀ s a, (f s a).pool = s.pool) (l : List α) (s : State) :
    (l.foldl f s).pool = s.pool := State.foldl_keeps (g := fun s => s.pool) h l s
@[simp] theorem State.foldl_kind {α : Type} {f : State → α → State} (h : ∀ s a, (f s a).kind = s.kind) (l : List α) (s : State) :
    (l.foldl f s).kind = s.kind := State.foldl_keeps (g := fun s => s.kind) h l s
@[simp] theorem State.foldl_incident {α : Type} {f : State → α → State} (h : ∀ s a, (f s a).incident = s.incident) (l : List α) (s : State) :
    (l.foldl f s).incident = s.incident := State.foldl_keeps (g := fun s => s.incident) h l s
@[simp] theorem State.foldl_incNotice {α : Type} {f : State → α → State} (h : ∀ s a, (f s a).incNotice = s.incNotice) (l : List α) (s : State) :
    (l.foldl f s).incNotice = s.incNotice := State.foldl_keeps (g := fun s => s.incNotice) h l s
@[simp] theorem State.foldl_interlocked {α : Type} {f : State → α → State} (h : ∀ s a, (f s a).interlocked = s.interlocked) (l : List α) (s : State) :
    (l.foldl f s).interlocked = s.interlocked := State.foldl_keeps (g := fun s => s.interlocked) h l s
@[simp] theorem State.foldl_fraction {α : Type} {f : State → α → State} (h : ∀ s a, (f s a).fraction = s.fraction) (l : List α) (s : State) :
    (l.foldl f s).fraction = s.fraction := State.foldl_keeps (g := fun s => s.fraction) h l s
@[simp] theorem State.foldl_platHeld {α : Type} {f : State → α → State} (h : ∀ s a, (f s a).platHeld = s.platHeld) (l : List α) (s : State) :
    (l.foldl f s).platHeld = s.platHeld := State.foldl_keeps (g := fun s => s.platHeld) h l s
@[simp] theorem State.foldl_platHeadway {α : Type} {f : State → α → State} (h : ∀ s a, (f s a).platHeadway = s.platHeadway) (l : List α) (s : State) :
    (l.foldl f s).platHeadway = s.platHeadway := State.foldl_keeps (g := fun s => s.platHeadway) h l s
@[simp] theorem State.foldl_station {α : Type} {f : State → α → State} (h : ∀ s a, (f s a).station = s.station) (l : List α) (s : State) :
    (l.foldl f s).station = s.station := State.foldl_keeps (g := fun s => s.station) h l s
@[simp] theorem State.foldl_template {α : Type} {f : State → α → State} (h : ∀ s a, (f s a).template = s.template) (l : List α) (s : State) :
    (l.foldl f s).template = s.template := State.foldl_keeps (g := fun s => s.template) h l s
@[simp] theorem State.foldl_zone {α : Type} {f : State → α → State} (h : ∀ s a, (f s a).zone = s.zone) (l : List α) (s : State) :
    (l.foldl f s).zone = s.zone := State.foldl_keeps (g := fun s => s.zone) h l s
@[simp] theorem State.foldl_arming {α : Type} {f : State → α → State} (h : ∀ s a, (f s a).arming = s.arming) (l : List α) (s : State) :
    (l.foldl f s).arming = s.arming := State.foldl_keeps (g := fun s => s.arming) h l s

/-! ## Queues -/

@[simp] theorem State.enqueue_keeps (s : State) (p : Port) (q : Lane) (f : Frame) :
    (s.enqueue p q f).pending = s.pending ∧ (s.enqueue p q f).resetHeld = s.resetHeld ∧
    (s.enqueue p q f).event = s.event ∧ (s.enqueue p q f).hnd = s.hnd ∧ (s.enqueue p q f).cls = s.cls ∧
    (s.enqueue p q f).unit = s.unit ∧ (s.enqueue p q f).console = s.console ∧ (s.enqueue p q f).tim = s.tim ∧
    (s.enqueue p q f).supervision = s.supervision ∧ (s.enqueue p q f).reg = s.reg ∧
    (s.enqueue p q f).slot = s.slot ∧ (s.enqueue p q f).trainNotice = s.trainNotice ∧
    (s.enqueue p q f).plat = s.plat ∧ (s.enqueue p q f).pow = s.pow ∧ (s.enqueue p q f).feeder = s.feeder ∧
    (s.enqueue p q f).sect = s.sect ∧ (s.enqueue p q f).pool = s.pool ∧ (s.enqueue p q f).inc = s.inc ∧
    (s.enqueue p q f).kind = s.kind ∧ (s.enqueue p q f).incident = s.incident ∧
    (s.enqueue p q f).incNotice = s.incNotice ∧ (s.enqueue p q f).interlocked = s.interlocked ∧
    (s.enqueue p q f).fraction = s.fraction ∧ (s.enqueue p q f).platHeld = s.platHeld ∧
    (s.enqueue p q f).platHeadway = s.platHeadway ∧ (s.enqueue p q f).com = s.com ∧
    (s.enqueue p q f).station = s.station ∧ (s.enqueue p q f).template = s.template ∧
    (s.enqueue p q f).zone = s.zone ∧ (s.enqueue p q f).arming = s.arming := by
  generalize ht : (s.enqueue p q f) = t
  unfold State.enqueue at ht
  try dsimp only at ht
  (repeat' split at ht) <;> subst ht <;> simp

@[simp] theorem State.enqueue_field (s : State) (q : Lane) (f : Frame) : (s.enqueue .field q f).consolePort = s.consolePort := by
  generalize ht : s.enqueue .field q f = t
  unfold State.enqueue at ht
  try dsimp only at ht
  (repeat' split at ht) <;> subst ht <;> simp

@[simp] theorem State.enqueue_console (s : State) (q : Lane) (f : Frame) : (s.enqueue .console q f).fieldPort = s.fieldPort := by
  generalize ht : s.enqueue .console q f = t
  unfold State.enqueue at ht
  try dsimp only at ht
  (repeat' split at ht) <;> subst ht <;> simp

@[simp] theorem State.countDiscard_keeps (s : State) (p : Port) :
    (s.countDiscard p).pending = s.pending ∧ (s.countDiscard p).resetHeld = s.resetHeld ∧
    (s.countDiscard p).event = s.event ∧ (s.countDiscard p).hnd = s.hnd ∧ (s.countDiscard p).cls = s.cls ∧
    (s.countDiscard p).unit = s.unit ∧ (s.countDiscard p).console = s.console ∧ (s.countDiscard p).tim = s.tim ∧
    (s.countDiscard p).supervision = s.supervision ∧ (s.countDiscard p).reg = s.reg ∧
    (s.countDiscard p).slot = s.slot ∧ (s.countDiscard p).trainNotice = s.trainNotice ∧
    (s.countDiscard p).plat = s.plat ∧ (s.countDiscard p).pow = s.pow ∧ (s.countDiscard p).feeder = s.feeder ∧
    (s.countDiscard p).sect = s.sect ∧ (s.countDiscard p).pool = s.pool ∧ (s.countDiscard p).inc = s.inc ∧
    (s.countDiscard p).kind = s.kind ∧ (s.countDiscard p).incident = s.incident ∧
    (s.countDiscard p).incNotice = s.incNotice ∧ (s.countDiscard p).interlocked = s.interlocked ∧
    (s.countDiscard p).fraction = s.fraction ∧ (s.countDiscard p).platHeld = s.platHeld ∧
    (s.countDiscard p).platHeadway = s.platHeadway ∧ (s.countDiscard p).com = s.com ∧
    (s.countDiscard p).station = s.station ∧ (s.countDiscard p).template = s.template ∧
    (s.countDiscard p).zone = s.zone ∧ (s.countDiscard p).arming = s.arming := by
  generalize ht : (s.countDiscard p) = t
  unfold State.countDiscard at ht
  try dsimp only at ht
  (repeat' split at ht) <;> subst ht <;> simp

@[simp] theorem State.countDiscard_field (s : State)  : (s.countDiscard .field).consolePort = s.consolePort := by
  generalize ht : s.countDiscard .field = t
  unfold State.countDiscard at ht
  try dsimp only at ht
  (repeat' split at ht) <;> subst ht <;> simp

@[simp] theorem State.countDiscard_console (s : State)  : (s.countDiscard .console).fieldPort = s.fieldPort := by
  generalize ht : s.countDiscard .console = t
  unfold State.countDiscard at ht
  try dsimp only at ht
  (repeat' split at ht) <;> subst ht <;> simp

@[simp] theorem State.queueOrDiscard_keeps (s : State) (p : Port) (q : Lane) (f : Frame) :
    (s.queueOrDiscard p q f).pending = s.pending ∧ (s.queueOrDiscard p q f).resetHeld = s.resetHeld ∧
    (s.queueOrDiscard p q f).event = s.event ∧ (s.queueOrDiscard p q f).hnd = s.hnd ∧
    (s.queueOrDiscard p q f).cls = s.cls ∧ (s.queueOrDiscard p q f).unit = s.unit ∧
    (s.queueOrDiscard p q f).console = s.console ∧ (s.queueOrDiscard p q f).tim = s.tim ∧
    (s.queueOrDiscard p q f).supervision = s.supervision ∧ (s.queueOrDiscard p q f).reg = s.reg ∧
    (s.queueOrDiscard p q f).slot = s.slot ∧ (s.queueOrDiscard p q f).trainNotice = s.trainNotice ∧
    (s.queueOrDiscard p q f).plat = s.plat ∧ (s.queueOrDiscard p q f).pow = s.pow ∧
    (s.queueOrDiscard p q f).feeder = s.feeder ∧ (s.queueOrDiscard p q f).sect = s.sect ∧
    (s.queueOrDiscard p q f).pool = s.pool ∧ (s.queueOrDiscard p q f).inc = s.inc ∧
    (s.queueOrDiscard p q f).kind = s.kind ∧ (s.queueOrDiscard p q f).incident = s.incident ∧
    (s.queueOrDiscard p q f).incNotice = s.incNotice ∧ (s.queueOrDiscard p q f).interlocked = s.interlocked ∧
    (s.queueOrDiscard p q f).fraction = s.fraction ∧ (s.queueOrDiscard p q f).platHeld = s.platHeld ∧
    (s.queueOrDiscard p q f).platHeadway = s.platHeadway ∧ (s.queueOrDiscard p q f).com = s.com ∧
    (s.queueOrDiscard p q f).station = s.station ∧ (s.queueOrDiscard p q f).template = s.template ∧
    (s.queueOrDiscard p q f).zone = s.zone ∧ (s.queueOrDiscard p q f).arming = s.arming := by
  generalize ht : (s.queueOrDiscard p q f) = t
  unfold State.queueOrDiscard at ht
  try dsimp only at ht
  (repeat' split at ht) <;> subst ht <;> simp

@[simp] theorem State.queueOrDiscard_field (s : State) (q : Lane) (f : Frame) : (s.queueOrDiscard .field q f).consolePort = s.consolePort := by
  generalize ht : s.queueOrDiscard .field q f = t
  unfold State.queueOrDiscard at ht
  try dsimp only at ht
  (repeat' split at ht) <;> subst ht <;> simp

@[simp] theorem State.queueOrDiscard_console (s : State) (q : Lane) (f : Frame) : (s.queueOrDiscard .console q f).fieldPort = s.fieldPort := by
  generalize ht : s.queueOrDiscard .console q f = t
  unfold State.queueOrDiscard at ht
  try dsimp only at ht
  (repeat' split at ht) <;> subst ht <;> simp

@[simp] theorem State.join_keeps (s : State) (p : Port) (q : Lane) (b : Block) :
    (s.join p q b).pending = s.pending ∧ (s.join p q b).resetHeld = s.resetHeld ∧ (s.join p q b).event = s.event ∧
    (s.join p q b).hnd = s.hnd ∧ (s.join p q b).cls = s.cls ∧ (s.join p q b).unit = s.unit ∧
    (s.join p q b).console = s.console ∧ (s.join p q b).tim = s.tim ∧ (s.join p q b).supervision = s.supervision ∧
    (s.join p q b).reg = s.reg ∧ (s.join p q b).slot = s.slot ∧ (s.join p q b).trainNotice = s.trainNotice ∧
    (s.join p q b).plat = s.plat ∧ (s.join p q b).pow = s.pow ∧ (s.join p q b).feeder = s.feeder ∧
    (s.join p q b).sect = s.sect ∧ (s.join p q b).pool = s.pool ∧ (s.join p q b).inc = s.inc ∧
    (s.join p q b).kind = s.kind ∧ (s.join p q b).incident = s.incident ∧ (s.join p q b).incNotice = s.incNotice ∧
    (s.join p q b).interlocked = s.interlocked ∧ (s.join p q b).fraction = s.fraction ∧
    (s.join p q b).platHeld = s.platHeld ∧ (s.join p q b).platHeadway = s.platHeadway ∧
    (s.join p q b).com = s.com ∧ (s.join p q b).station = s.station ∧ (s.join p q b).template = s.template ∧
    (s.join p q b).zone = s.zone ∧ (s.join p q b).arming = s.arming := by
  generalize ht : (s.join p q b) = t
  unfold State.join at ht
  try dsimp only at ht
  (repeat' split at ht) <;> subst ht <;> simp

@[simp] theorem State.join_field (s : State) (q : Lane) (b : Block) : (s.join .field q b).consolePort = s.consolePort := by
  generalize ht : s.join .field q b = t
  unfold State.join at ht
  try dsimp only at ht
  (repeat' split at ht) <;> subst ht <;> simp

@[simp] theorem State.join_console (s : State) (q : Lane) (b : Block) : (s.join .console q b).fieldPort = s.fieldPort := by
  generalize ht : s.join .console q b = t
  unfold State.join at ht
  try dsimp only at ht
  (repeat' split at ht) <;> subst ht <;> simp

@[simp] theorem State.joinBoth_keeps (s : State) (p : Port) (b : Block) :
    (s.joinBoth p b).pending = s.pending ∧ (s.joinBoth p b).resetHeld = s.resetHeld ∧
    (s.joinBoth p b).event = s.event ∧ (s.joinBoth p b).hnd = s.hnd ∧ (s.joinBoth p b).cls = s.cls ∧
    (s.joinBoth p b).unit = s.unit ∧ (s.joinBoth p b).console = s.console ∧ (s.joinBoth p b).tim = s.tim ∧
    (s.joinBoth p b).supervision = s.supervision ∧ (s.joinBoth p b).reg = s.reg ∧ (s.joinBoth p b).slot = s.slot ∧
    (s.joinBoth p b).trainNotice = s.trainNotice ∧ (s.joinBoth p b).plat = s.plat ∧ (s.joinBoth p b).pow = s.pow ∧
    (s.joinBoth p b).feeder = s.feeder ∧ (s.joinBoth p b).sect = s.sect ∧ (s.joinBoth p b).pool = s.pool ∧
    (s.joinBoth p b).inc = s.inc ∧ (s.joinBoth p b).kind = s.kind ∧ (s.joinBoth p b).incident = s.incident ∧
    (s.joinBoth p b).incNotice = s.incNotice ∧ (s.joinBoth p b).interlocked = s.interlocked ∧
    (s.joinBoth p b).fraction = s.fraction ∧ (s.joinBoth p b).platHeld = s.platHeld ∧
    (s.joinBoth p b).platHeadway = s.platHeadway ∧ (s.joinBoth p b).com = s.com ∧
    (s.joinBoth p b).station = s.station ∧ (s.joinBoth p b).template = s.template ∧
    (s.joinBoth p b).zone = s.zone ∧ (s.joinBoth p b).arming = s.arming := by
  generalize ht : (s.joinBoth p b) = t
  unfold State.joinBoth at ht
  try dsimp only at ht
  (repeat' split at ht) <;> subst ht <;> simp

@[simp] theorem State.joinBoth_field (s : State) (b : Block) : (s.joinBoth .field b).consolePort = s.consolePort := by
  generalize ht : s.joinBoth .field b = t
  unfold State.joinBoth at ht
  try dsimp only at ht
  (repeat' split at ht) <;> subst ht <;> simp

@[simp] theorem State.joinBoth_console (s : State) (b : Block) : (s.joinBoth .console b).fieldPort = s.fieldPort := by
  generalize ht : s.joinBoth .console b = t
  unfold State.joinBoth at ht
  try dsimp only at ht
  (repeat' split at ht) <;> subst ht <;> simp

@[simp] theorem State.pruneOne_keeps (s : State) (p : Port) (q : Lane) :
    (s.pruneOne p q).pending = s.pending ∧ (s.pruneOne p q).resetHeld = s.resetHeld ∧
    (s.pruneOne p q).event = s.event ∧ (s.pruneOne p q).hnd = s.hnd ∧ (s.pruneOne p q).cls = s.cls ∧
    (s.pruneOne p q).unit = s.unit ∧ (s.pruneOne p q).console = s.console ∧ (s.pruneOne p q).tim = s.tim ∧
    (s.pruneOne p q).supervision = s.supervision ∧ (s.pruneOne p q).reg = s.reg ∧ (s.pruneOne p q).slot = s.slot ∧
    (s.pruneOne p q).trainNotice = s.trainNotice ∧ (s.pruneOne p q).plat = s.plat ∧ (s.pruneOne p q).pow = s.pow ∧
    (s.pruneOne p q).feeder = s.feeder ∧ (s.pruneOne p q).sect = s.sect ∧ (s.pruneOne p q).pool = s.pool ∧
    (s.pruneOne p q).inc = s.inc ∧ (s.pruneOne p q).kind = s.kind ∧ (s.pruneOne p q).incident = s.incident ∧
    (s.pruneOne p q).incNotice = s.incNotice ∧ (s.pruneOne p q).interlocked = s.interlocked ∧
    (s.pruneOne p q).fraction = s.fraction ∧ (s.pruneOne p q).platHeld = s.platHeld ∧
    (s.pruneOne p q).platHeadway = s.platHeadway ∧ (s.pruneOne p q).com = s.com ∧
    (s.pruneOne p q).station = s.station ∧ (s.pruneOne p q).template = s.template ∧
    (s.pruneOne p q).zone = s.zone ∧ (s.pruneOne p q).arming = s.arming := by
  generalize ht : (s.pruneOne p q) = t
  unfold State.pruneOne at ht
  try dsimp only at ht
  (repeat' split at ht) <;> subst ht <;> simp

@[simp] theorem State.pruneOne_field (s : State) (q : Lane) : (s.pruneOne .field q).consolePort = s.consolePort := by
  generalize ht : s.pruneOne .field q = t
  unfold State.pruneOne at ht
  try dsimp only at ht
  (repeat' split at ht) <;> subst ht <;> simp

@[simp] theorem State.pruneOne_console (s : State) (q : Lane) : (s.pruneOne .console q).fieldPort = s.fieldPort := by
  generalize ht : s.pruneOne .console q = t
  unfold State.pruneOne at ht
  try dsimp only at ht
  (repeat' split at ht) <;> subst ht <;> simp

@[simp] theorem State.prune_keeps (s : State) :
    s.prune.pending = s.pending ∧ s.prune.resetHeld = s.resetHeld ∧ s.prune.event = s.event ∧ s.prune.hnd = s.hnd ∧
    s.prune.cls = s.cls ∧ s.prune.unit = s.unit ∧ s.prune.console = s.console ∧ s.prune.tim = s.tim ∧
    s.prune.supervision = s.supervision ∧ s.prune.reg = s.reg ∧ s.prune.slot = s.slot ∧
    s.prune.trainNotice = s.trainNotice ∧ s.prune.plat = s.plat ∧ s.prune.pow = s.pow ∧ s.prune.feeder = s.feeder ∧
    s.prune.sect = s.sect ∧ s.prune.pool = s.pool ∧ s.prune.inc = s.inc ∧ s.prune.kind = s.kind ∧
    s.prune.incident = s.incident ∧ s.prune.incNotice = s.incNotice ∧ s.prune.interlocked = s.interlocked ∧
    s.prune.fraction = s.fraction ∧ s.prune.platHeld = s.platHeld ∧ s.prune.platHeadway = s.platHeadway ∧
    s.prune.com = s.com ∧ s.prune.station = s.station ∧ s.prune.template = s.template ∧ s.prune.zone = s.zone ∧
    s.prune.arming = s.arming := by
  generalize ht : s.prune = t
  unfold State.prune at ht
  try dsimp only at ht
  (repeat' split at ht) <;> subst ht <;> simp

@[simp] theorem State.sendReply_keeps (s : State) (f : Frame) :
    (s.sendReply f).pending = s.pending ∧ (s.sendReply f).resetHeld = s.resetHeld ∧
    (s.sendReply f).event = s.event ∧ (s.sendReply f).hnd.op = s.hnd.op ∧ (s.sendReply f).cls = s.cls ∧
    (s.sendReply f).unit = s.unit ∧ (s.sendReply f).console = s.console ∧ (s.sendReply f).tim = s.tim ∧
    (s.sendReply f).supervision = s.supervision ∧ (s.sendReply f).reg = s.reg ∧ (s.sendReply f).slot = s.slot ∧
    (s.sendReply f).trainNotice = s.trainNotice ∧ (s.sendReply f).plat = s.plat ∧ (s.sendReply f).pow = s.pow ∧
    (s.sendReply f).feeder = s.feeder ∧ (s.sendReply f).sect = s.sect ∧ (s.sendReply f).pool = s.pool ∧
    (s.sendReply f).inc = s.inc ∧ (s.sendReply f).kind = s.kind ∧ (s.sendReply f).incident = s.incident ∧
    (s.sendReply f).incNotice = s.incNotice ∧ (s.sendReply f).interlocked = s.interlocked ∧
    (s.sendReply f).fraction = s.fraction ∧ (s.sendReply f).platHeld = s.platHeld ∧
    (s.sendReply f).platHeadway = s.platHeadway ∧ (s.sendReply f).com = s.com ∧
    (s.sendReply f).station = s.station ∧ (s.sendReply f).template = s.template ∧ (s.sendReply f).zone = s.zone ∧
    (s.sendReply f).arming = s.arming ∧ (s.sendReply f).fieldPort = s.fieldPort := by
  generalize ht : (s.sendReply f) = t
  unfold State.sendReply at ht
  try dsimp only at ht
  (repeat' split at ht) <;> subst ht <;> simp

@[simp] theorem State.pushOutcome_keeps (s : State) (o : Outcome) :
    (s.pushOutcome o).pending = s.pending ∧ (s.pushOutcome o).resetHeld = s.resetHeld ∧
    (s.pushOutcome o).event = s.event ∧ (s.pushOutcome o).hnd = s.hnd ∧ (s.pushOutcome o).cls = s.cls ∧
    (s.pushOutcome o).unit = s.unit ∧ (s.pushOutcome o).console = s.console ∧ (s.pushOutcome o).tim = s.tim ∧
    (s.pushOutcome o).supervision = s.supervision ∧ (s.pushOutcome o).reg.trains = s.reg.trains ∧
    (s.pushOutcome o).slot = s.slot ∧ (s.pushOutcome o).reg.notices = s.reg.notices ∧
    (s.pushOutcome o).trainNotice = s.trainNotice ∧ (s.pushOutcome o).reg.platforms = s.reg.platforms ∧
    (s.pushOutcome o).plat = s.plat ∧ (s.pushOutcome o).pow = s.pow ∧ (s.pushOutcome o).feeder = s.feeder ∧
    (s.pushOutcome o).sect = s.sect ∧ (s.pushOutcome o).pool = s.pool ∧ (s.pushOutcome o).inc = s.inc ∧
    (s.pushOutcome o).kind = s.kind ∧ (s.pushOutcome o).incident = s.incident ∧
    (s.pushOutcome o).incNotice = s.incNotice ∧ (s.pushOutcome o).interlocked = s.interlocked ∧
    (s.pushOutcome o).fraction = s.fraction ∧ (s.pushOutcome o).platHeld = s.platHeld ∧
    (s.pushOutcome o).platHeadway = s.platHeadway ∧ (s.pushOutcome o).com = s.com ∧
    (s.pushOutcome o).station = s.station ∧ (s.pushOutcome o).template = s.template ∧
    (s.pushOutcome o).zone = s.zone ∧ (s.pushOutcome o).arming = s.arming ∧
    (s.pushOutcome o).fieldPort = s.fieldPort ∧ (s.pushOutcome o).consolePort = s.consolePort := by
  generalize ht : (s.pushOutcome o) = t
  unfold State.pushOutcome at ht
  try dsimp only at ht
  (repeat' split at ht) <;> subst ht <;> simp

@[simp] theorem State.formOutcomes_keeps (s : State) :
    s.formOutcomes.pending = s.pending ∧ s.formOutcomes.resetHeld = s.resetHeld ∧ s.formOutcomes.event = s.event ∧
    s.formOutcomes.hnd = s.hnd ∧ s.formOutcomes.cls = s.cls ∧ s.formOutcomes.unit = s.unit ∧
    s.formOutcomes.console = s.console ∧ s.formOutcomes.tim = s.tim ∧ s.formOutcomes.supervision = s.supervision ∧
    s.formOutcomes.reg.trains = s.reg.trains ∧ s.formOutcomes.slot = s.slot ∧
    s.formOutcomes.reg.notices = s.reg.notices ∧ s.formOutcomes.trainNotice = s.trainNotice ∧
    s.formOutcomes.reg.platforms = s.reg.platforms ∧ s.formOutcomes.plat = s.plat ∧
    s.formOutcomes.reg.outcomeLoss = s.reg.outcomeLoss ∧ s.formOutcomes.pow = s.pow ∧
    s.formOutcomes.feeder = s.feeder ∧ s.formOutcomes.sect = s.sect ∧ s.formOutcomes.pool = s.pool ∧
    s.formOutcomes.inc = s.inc ∧ s.formOutcomes.kind = s.kind ∧ s.formOutcomes.incident = s.incident ∧
    s.formOutcomes.incNotice = s.incNotice ∧ s.formOutcomes.interlocked = s.interlocked ∧
    s.formOutcomes.fraction = s.fraction ∧ s.formOutcomes.platHeld = s.platHeld ∧
    s.formOutcomes.platHeadway = s.platHeadway ∧ s.formOutcomes.com = s.com ∧ s.formOutcomes.station = s.station ∧
    s.formOutcomes.template = s.template ∧ s.formOutcomes.zone = s.zone ∧ s.formOutcomes.arming = s.arming ∧
    s.formOutcomes.fieldPort = s.fieldPort := by
  generalize ht : s.formOutcomes = t
  unfold State.formOutcomes at ht
  try dsimp only at ht
  (repeat' split at ht) <;> subst ht <;> simp

@[simp] theorem State.tryOutcomes_keeps (s : State) :
    s.tryOutcomes.pending = s.pending ∧ s.tryOutcomes.resetHeld = s.resetHeld ∧ s.tryOutcomes.event = s.event ∧
    s.tryOutcomes.hnd = s.hnd ∧ s.tryOutcomes.cls = s.cls ∧ s.tryOutcomes.unit = s.unit ∧
    s.tryOutcomes.console = s.console ∧ s.tryOutcomes.tim = s.tim ∧ s.tryOutcomes.supervision = s.supervision ∧
    s.tryOutcomes.reg.trains = s.reg.trains ∧ s.tryOutcomes.slot = s.slot ∧
    s.tryOutcomes.reg.notices = s.reg.notices ∧ s.tryOutcomes.trainNotice = s.trainNotice ∧
    s.tryOutcomes.reg.platforms = s.reg.platforms ∧ s.tryOutcomes.plat = s.plat ∧
    s.tryOutcomes.reg.outcomeLoss = s.reg.outcomeLoss ∧ s.tryOutcomes.pow = s.pow ∧
    s.tryOutcomes.feeder = s.feeder ∧ s.tryOutcomes.sect = s.sect ∧ s.tryOutcomes.pool = s.pool ∧
    s.tryOutcomes.inc = s.inc ∧ s.tryOutcomes.kind = s.kind ∧ s.tryOutcomes.incident = s.incident ∧
    s.tryOutcomes.incNotice = s.incNotice ∧ s.tryOutcomes.interlocked = s.interlocked ∧
    s.tryOutcomes.fraction = s.fraction ∧ s.tryOutcomes.platHeld = s.platHeld ∧
    s.tryOutcomes.platHeadway = s.platHeadway ∧ s.tryOutcomes.com = s.com ∧ s.tryOutcomes.station = s.station ∧
    s.tryOutcomes.template = s.template ∧ s.tryOutcomes.zone = s.zone ∧ s.tryOutcomes.arming = s.arming ∧
    s.tryOutcomes.fieldPort = s.fieldPort := by
  generalize ht : s.tryOutcomes = t
  unfold State.tryOutcomes at ht
  try dsimp only at ht
  (repeat' split at ht) <;> subst ht <;> simp

/-! ## Notices -/

@[simp] theorem State.trainDue_keeps (s : State) (t : Nat) (r : TrainReason) :
    (s.trainDue t r).pending = s.pending ∧ (s.trainDue t r).resetHeld = s.resetHeld ∧
    (s.trainDue t r).event = s.event ∧ (s.trainDue t r).hnd = s.hnd ∧ (s.trainDue t r).cls = s.cls ∧
    (s.trainDue t r).unit = s.unit ∧ (s.trainDue t r).console = s.console ∧ (s.trainDue t r).tim = s.tim ∧
    (s.trainDue t r).supervision = s.supervision ∧ (s.trainDue t r).reg.trains = s.reg.trains ∧
    (s.trainDue t r).slot = s.slot ∧ (s.trainDue t r).reg.platforms = s.reg.platforms ∧
    (s.trainDue t r).plat = s.plat ∧ (s.trainDue t r).reg.outcomes = s.reg.outcomes ∧
    (s.trainDue t r).reg.outcomeLoss = s.reg.outcomeLoss ∧ (s.trainDue t r).pow = s.pow ∧
    (s.trainDue t r).feeder = s.feeder ∧ (s.trainDue t r).sect = s.sect ∧ (s.trainDue t r).pool = s.pool ∧
    (s.trainDue t r).inc = s.inc ∧ (s.trainDue t r).kind = s.kind ∧ (s.trainDue t r).incident = s.incident ∧
    (s.trainDue t r).incNotice = s.incNotice ∧ (s.trainDue t r).interlocked = s.interlocked ∧
    (s.trainDue t r).fraction = s.fraction ∧ (s.trainDue t r).platHeld = s.platHeld ∧
    (s.trainDue t r).platHeadway = s.platHeadway ∧ (s.trainDue t r).com = s.com ∧
    (s.trainDue t r).station = s.station ∧ (s.trainDue t r).template = s.template ∧
    (s.trainDue t r).zone = s.zone ∧ (s.trainDue t r).arming = s.arming ∧ (s.trainDue t r).fieldPort = s.fieldPort := by
  generalize ht : (s.trainDue t r) = t
  unfold State.trainDue at ht
  try dsimp only at ht
  (repeat' split at ht) <;> subst ht <;> simp

@[simp] theorem State.sectDue_keeps (s : State) (k : Nat) (b : SectState) (c : SectCause) :
    (s.sectDue k b c).pending = s.pending ∧ (s.sectDue k b c).resetHeld = s.resetHeld ∧
    (s.sectDue k b c).event = s.event ∧ (s.sectDue k b c).hnd = s.hnd ∧ (s.sectDue k b c).cls = s.cls ∧
    (s.sectDue k b c).unit = s.unit ∧ (s.sectDue k b c).console = s.console ∧ (s.sectDue k b c).tim = s.tim ∧
    (s.sectDue k b c).supervision = s.supervision ∧ (s.sectDue k b c).reg = s.reg ∧
    (s.sectDue k b c).slot = s.slot ∧ (s.sectDue k b c).trainNotice = s.trainNotice ∧
    (s.sectDue k b c).plat = s.plat ∧ (s.sectDue k b c).pow.feeders = s.pow.feeders ∧
    (s.sectDue k b c).feeder = s.feeder ∧ (s.sectDue k b c).pow.pool = s.pow.pool ∧
    (s.sectDue k b c).pool = s.pool ∧ (s.sectDue k b c).pow.demand0 = s.pow.demand0 ∧
    (s.sectDue k b c).pow.demand1 = s.pow.demand1 ∧ (s.sectDue k b c).pow.demand2 = s.pow.demand2 ∧
    (s.sectDue k b c).pow.demand3 = s.pow.demand3 ∧ (s.sectDue k b c).inc = s.inc ∧
    (s.sectDue k b c).kind = s.kind ∧ (s.sectDue k b c).incident = s.incident ∧
    (s.sectDue k b c).incNotice = s.incNotice ∧ (s.sectDue k b c).interlocked = s.interlocked ∧
    (s.sectDue k b c).fraction = s.fraction ∧ (s.sectDue k b c).platHeld = s.platHeld ∧
    (s.sectDue k b c).platHeadway = s.platHeadway ∧ (s.sectDue k b c).com = s.com ∧
    (s.sectDue k b c).station = s.station ∧ (s.sectDue k b c).template = s.template ∧
    (s.sectDue k b c).zone = s.zone ∧ (s.sectDue k b c).arming = s.arming ∧
    (s.sectDue k b c).fieldPort = s.fieldPort := by
  generalize ht : (s.sectDue k b c) = t
  unfold State.sectDue at ht
  try dsimp only at ht
  (repeat' split at ht) <;> subst ht <;> simp

@[simp] theorem State.incDue_keeps (s : State) (i : Nat) (n : IncNotice) :
    (s.incDue i n).pending = s.pending ∧ (s.incDue i n).resetHeld = s.resetHeld ∧ (s.incDue i n).event = s.event ∧
    (s.incDue i n).hnd = s.hnd ∧ (s.incDue i n).cls = s.cls ∧ (s.incDue i n).unit = s.unit ∧
    (s.incDue i n).console = s.console ∧ (s.incDue i n).tim = s.tim ∧ (s.incDue i n).supervision = s.supervision ∧
    (s.incDue i n).reg = s.reg ∧ (s.incDue i n).slot = s.slot ∧ (s.incDue i n).trainNotice = s.trainNotice ∧
    (s.incDue i n).plat = s.plat ∧ (s.incDue i n).pow = s.pow ∧ (s.incDue i n).feeder = s.feeder ∧
    (s.incDue i n).sect = s.sect ∧ (s.incDue i n).pool = s.pool ∧ (s.incDue i n).inc.kinds = s.inc.kinds ∧
    (s.incDue i n).kind = s.kind ∧ (s.incDue i n).inc.entries = s.inc.entries ∧
    (s.incDue i n).incident = s.incident ∧ (s.incDue i n).inc.cleared = s.inc.cleared ∧
    (s.incDue i n).inc.nextNumber = s.inc.nextNumber ∧ (s.incDue i n).inc.overflow = s.inc.overflow ∧
    (s.incDue i n).inc.interlock = s.inc.interlock ∧ (s.incDue i n).interlocked = s.interlocked ∧
    (s.incDue i n).inc.fraction = s.inc.fraction ∧ (s.incDue i n).fraction = s.fraction ∧
    (s.incDue i n).inc.held = s.inc.held ∧ (s.incDue i n).platHeld = s.platHeld ∧
    (s.incDue i n).inc.headway = s.inc.headway ∧ (s.incDue i n).platHeadway = s.platHeadway ∧
    (s.incDue i n).com = s.com ∧ (s.incDue i n).station = s.station ∧ (s.incDue i n).template = s.template ∧
    (s.incDue i n).zone = s.zone ∧ (s.incDue i n).arming = s.arming ∧ (s.incDue i n).fieldPort = s.fieldPort := by
  generalize ht : (s.incDue i n) = t
  unfold State.incDue at ht
  try dsimp only at ht
  (repeat' split at ht) <;> subst ht <;> simp

@[simp] theorem State.zoneDue_keeps (s : State) (k : Nat) (n : ZoneNotice) :
    (s.zoneDue k n).pending = s.pending ∧ (s.zoneDue k n).resetHeld = s.resetHeld ∧
    (s.zoneDue k n).event = s.event ∧ (s.zoneDue k n).hnd = s.hnd ∧ (s.zoneDue k n).cls = s.cls ∧
    (s.zoneDue k n).unit = s.unit ∧ (s.zoneDue k n).console = s.console ∧ (s.zoneDue k n).tim = s.tim ∧
    (s.zoneDue k n).supervision = s.supervision ∧ (s.zoneDue k n).reg = s.reg ∧ (s.zoneDue k n).slot = s.slot ∧
    (s.zoneDue k n).trainNotice = s.trainNotice ∧ (s.zoneDue k n).plat = s.plat ∧ (s.zoneDue k n).pow = s.pow ∧
    (s.zoneDue k n).feeder = s.feeder ∧ (s.zoneDue k n).sect = s.sect ∧ (s.zoneDue k n).pool = s.pool ∧
    (s.zoneDue k n).inc = s.inc ∧ (s.zoneDue k n).kind = s.kind ∧ (s.zoneDue k n).incident = s.incident ∧
    (s.zoneDue k n).incNotice = s.incNotice ∧ (s.zoneDue k n).interlocked = s.interlocked ∧
    (s.zoneDue k n).fraction = s.fraction ∧ (s.zoneDue k n).platHeld = s.platHeld ∧
    (s.zoneDue k n).platHeadway = s.platHeadway ∧ (s.zoneDue k n).com.stations = s.com.stations ∧
    (s.zoneDue k n).station = s.station ∧ (s.zoneDue k n).com.templates = s.com.templates ∧
    (s.zoneDue k n).template = s.template ∧ (s.zoneDue k n).com.armings = s.com.armings ∧
    (s.zoneDue k n).arming = s.arming ∧ (s.zoneDue k n).com.zoneDrops = s.com.zoneDrops ∧
    (s.zoneDue k n).fieldPort = s.fieldPort := by
  generalize ht : (s.zoneDue k n) = t
  unfold State.zoneDue at ht
  try dsimp only at ht
  (repeat' split at ht) <;> subst ht <;> simp

@[simp] theorem State.entryDue_keeps (s : State) (k : Nat) (r : ZoneReason) (e : QEntry) :
    (s.entryDue k r e).pending = s.pending ∧ (s.entryDue k r e).resetHeld = s.resetHeld ∧
    (s.entryDue k r e).event = s.event ∧ (s.entryDue k r e).hnd = s.hnd ∧ (s.entryDue k r e).cls = s.cls ∧
    (s.entryDue k r e).unit = s.unit ∧ (s.entryDue k r e).console = s.console ∧ (s.entryDue k r e).tim = s.tim ∧
    (s.entryDue k r e).supervision = s.supervision ∧ (s.entryDue k r e).reg = s.reg ∧
    (s.entryDue k r e).slot = s.slot ∧ (s.entryDue k r e).trainNotice = s.trainNotice ∧
    (s.entryDue k r e).plat = s.plat ∧ (s.entryDue k r e).pow = s.pow ∧ (s.entryDue k r e).feeder = s.feeder ∧
    (s.entryDue k r e).sect = s.sect ∧ (s.entryDue k r e).pool = s.pool ∧ (s.entryDue k r e).inc = s.inc ∧
    (s.entryDue k r e).kind = s.kind ∧ (s.entryDue k r e).incident = s.incident ∧
    (s.entryDue k r e).incNotice = s.incNotice ∧ (s.entryDue k r e).interlocked = s.interlocked ∧
    (s.entryDue k r e).fraction = s.fraction ∧ (s.entryDue k r e).platHeld = s.platHeld ∧
    (s.entryDue k r e).platHeadway = s.platHeadway ∧ (s.entryDue k r e).com.stations = s.com.stations ∧
    (s.entryDue k r e).station = s.station ∧ (s.entryDue k r e).com.templates = s.com.templates ∧
    (s.entryDue k r e).template = s.template ∧ (s.entryDue k r e).com.armings = s.com.armings ∧
    (s.entryDue k r e).arming = s.arming ∧ (s.entryDue k r e).com.zoneDrops = s.com.zoneDrops ∧
    (s.entryDue k r e).fieldPort = s.fieldPort := by
  generalize ht : (s.entryDue k r e) = t
  unfold State.entryDue at ht
  try dsimp only at ht
  (repeat' split at ht) <;> subst ht <;> simp

@[simp] theorem State.unlockDue_keeps (s : State) (k : Nat) (r : ZoneReason) (l : Lock) :
    (s.unlockDue k r l).pending = s.pending ∧ (s.unlockDue k r l).resetHeld = s.resetHeld ∧
    (s.unlockDue k r l).event = s.event ∧ (s.unlockDue k r l).hnd = s.hnd ∧ (s.unlockDue k r l).cls = s.cls ∧
    (s.unlockDue k r l).unit = s.unit ∧ (s.unlockDue k r l).console = s.console ∧ (s.unlockDue k r l).tim = s.tim ∧
    (s.unlockDue k r l).supervision = s.supervision ∧ (s.unlockDue k r l).reg = s.reg ∧
    (s.unlockDue k r l).slot = s.slot ∧ (s.unlockDue k r l).trainNotice = s.trainNotice ∧
    (s.unlockDue k r l).plat = s.plat ∧ (s.unlockDue k r l).pow = s.pow ∧ (s.unlockDue k r l).feeder = s.feeder ∧
    (s.unlockDue k r l).sect = s.sect ∧ (s.unlockDue k r l).pool = s.pool ∧ (s.unlockDue k r l).inc = s.inc ∧
    (s.unlockDue k r l).kind = s.kind ∧ (s.unlockDue k r l).incident = s.incident ∧
    (s.unlockDue k r l).incNotice = s.incNotice ∧ (s.unlockDue k r l).interlocked = s.interlocked ∧
    (s.unlockDue k r l).fraction = s.fraction ∧ (s.unlockDue k r l).platHeld = s.platHeld ∧
    (s.unlockDue k r l).platHeadway = s.platHeadway ∧ (s.unlockDue k r l).com.stations = s.com.stations ∧
    (s.unlockDue k r l).station = s.station ∧ (s.unlockDue k r l).com.templates = s.com.templates ∧
    (s.unlockDue k r l).template = s.template ∧ (s.unlockDue k r l).com.armings = s.com.armings ∧
    (s.unlockDue k r l).arming = s.arming ∧ (s.unlockDue k r l).com.zoneDrops = s.com.zoneDrops ∧
    (s.unlockDue k r l).fieldPort = s.fieldPort := by
  generalize ht : (s.unlockDue k r l) = t
  unfold State.unlockDue at ht
  try dsimp only at ht
  (repeat' split at ht) <;> subst ht <;> simp

@[simp] theorem State.sendAdvice_keeps (s : State) (t : Nat) (f : Frame) :
    (s.sendAdvice t f).pending = s.pending ∧ (s.sendAdvice t f).resetHeld = s.resetHeld ∧
    (s.sendAdvice t f).event = s.event ∧ (s.sendAdvice t f).hnd = s.hnd ∧ (s.sendAdvice t f).cls = s.cls ∧
    (s.sendAdvice t f).unit = s.unit ∧ (s.sendAdvice t f).console = s.console ∧ (s.sendAdvice t f).tim = s.tim ∧
    (s.sendAdvice t f).supervision = s.supervision ∧ (s.sendAdvice t f).reg.notices = s.reg.notices ∧
    (s.sendAdvice t f).trainNotice = s.trainNotice ∧ (s.sendAdvice t f).reg.platforms = s.reg.platforms ∧
    (s.sendAdvice t f).plat = s.plat ∧ (s.sendAdvice t f).reg.outcomes = s.reg.outcomes ∧
    (s.sendAdvice t f).reg.outcomeLoss = s.reg.outcomeLoss ∧ (s.sendAdvice t f).pow = s.pow ∧
    (s.sendAdvice t f).feeder = s.feeder ∧ (s.sendAdvice t f).sect = s.sect ∧ (s.sendAdvice t f).pool = s.pool ∧
    (s.sendAdvice t f).inc = s.inc ∧ (s.sendAdvice t f).kind = s.kind ∧ (s.sendAdvice t f).incident = s.incident ∧
    (s.sendAdvice t f).incNotice = s.incNotice ∧ (s.sendAdvice t f).interlocked = s.interlocked ∧
    (s.sendAdvice t f).fraction = s.fraction ∧ (s.sendAdvice t f).platHeld = s.platHeld ∧
    (s.sendAdvice t f).platHeadway = s.platHeadway ∧ (s.sendAdvice t f).com = s.com ∧
    (s.sendAdvice t f).station = s.station ∧ (s.sendAdvice t f).template = s.template ∧
    (s.sendAdvice t f).zone = s.zone ∧ (s.sendAdvice t f).arming = s.arming ∧
    (s.sendAdvice t f).consolePort = s.consolePort := by
  generalize ht : (s.sendAdvice t f) = t
  unfold State.sendAdvice at ht
  try dsimp only at ht
  (repeat' split at ht) <;> subst ht <;> simp

@[simp] theorem State.holdPermit_keeps (s : State) (t : Nat) (f : Frame) :
    (s.holdPermit t f).pending = s.pending ∧ (s.holdPermit t f).resetHeld = s.resetHeld ∧
    (s.holdPermit t f).event = s.event ∧ (s.holdPermit t f).hnd = s.hnd ∧ (s.holdPermit t f).cls = s.cls ∧
    (s.holdPermit t f).unit = s.unit ∧ (s.holdPermit t f).console = s.console ∧ (s.holdPermit t f).tim = s.tim ∧
    (s.holdPermit t f).supervision = s.supervision ∧ (s.holdPermit t f).reg.notices = s.reg.notices ∧
    (s.holdPermit t f).trainNotice = s.trainNotice ∧ (s.holdPermit t f).reg.platforms = s.reg.platforms ∧
    (s.holdPermit t f).plat = s.plat ∧ (s.holdPermit t f).reg.outcomes = s.reg.outcomes ∧
    (s.holdPermit t f).reg.outcomeLoss = s.reg.outcomeLoss ∧ (s.holdPermit t f).pow = s.pow ∧
    (s.holdPermit t f).feeder = s.feeder ∧ (s.holdPermit t f).sect = s.sect ∧ (s.holdPermit t f).pool = s.pool ∧
    (s.holdPermit t f).inc = s.inc ∧ (s.holdPermit t f).kind = s.kind ∧ (s.holdPermit t f).incident = s.incident ∧
    (s.holdPermit t f).incNotice = s.incNotice ∧ (s.holdPermit t f).interlocked = s.interlocked ∧
    (s.holdPermit t f).fraction = s.fraction ∧ (s.holdPermit t f).platHeld = s.platHeld ∧
    (s.holdPermit t f).platHeadway = s.platHeadway ∧ (s.holdPermit t f).com = s.com ∧
    (s.holdPermit t f).station = s.station ∧ (s.holdPermit t f).template = s.template ∧
    (s.holdPermit t f).zone = s.zone ∧ (s.holdPermit t f).arming = s.arming ∧
    (s.holdPermit t f).consolePort = s.consolePort := by
  generalize ht : (s.holdPermit t f) = t
  unfold State.holdPermit at ht
  try dsimp only at ht
  (repeat' split at ht) <;> subst ht <;> simp

@[simp] theorem State.sendPermit_keeps (s : State) (t : Nat) (f : Frame) :
    (s.sendPermit t f).pending = s.pending ∧ (s.sendPermit t f).resetHeld = s.resetHeld ∧
    (s.sendPermit t f).event = s.event ∧ (s.sendPermit t f).hnd = s.hnd ∧ (s.sendPermit t f).cls = s.cls ∧
    (s.sendPermit t f).unit = s.unit ∧ (s.sendPermit t f).console = s.console ∧ (s.sendPermit t f).tim = s.tim ∧
    (s.sendPermit t f).supervision = s.supervision ∧ (s.sendPermit t f).reg.notices = s.reg.notices ∧
    (s.sendPermit t f).trainNotice = s.trainNotice ∧ (s.sendPermit t f).reg.platforms = s.reg.platforms ∧
    (s.sendPermit t f).plat = s.plat ∧ (s.sendPermit t f).reg.outcomes = s.reg.outcomes ∧
    (s.sendPermit t f).reg.outcomeLoss = s.reg.outcomeLoss ∧ (s.sendPermit t f).pow = s.pow ∧
    (s.sendPermit t f).feeder = s.feeder ∧ (s.sendPermit t f).sect = s.sect ∧ (s.sendPermit t f).pool = s.pool ∧
    (s.sendPermit t f).inc = s.inc ∧ (s.sendPermit t f).kind = s.kind ∧ (s.sendPermit t f).incident = s.incident ∧
    (s.sendPermit t f).incNotice = s.incNotice ∧ (s.sendPermit t f).interlocked = s.interlocked ∧
    (s.sendPermit t f).fraction = s.fraction ∧ (s.sendPermit t f).platHeld = s.platHeld ∧
    (s.sendPermit t f).platHeadway = s.platHeadway ∧ (s.sendPermit t f).com = s.com ∧
    (s.sendPermit t f).station = s.station ∧ (s.sendPermit t f).template = s.template ∧
    (s.sendPermit t f).zone = s.zone ∧ (s.sendPermit t f).arming = s.arming ∧
    (s.sendPermit t f).consolePort = s.consolePort := by
  generalize ht : (s.sendPermit t f) = t
  unfold State.sendPermit at ht
  try dsimp only at ht
  (repeat' split at ht) <;> subst ht <;> simp

@[simp] theorem State.sendOrder_keeps (s : State) (k : OrderKind) (i : Nat) :
    (s.sendOrder k i).pending = s.pending ∧ (s.sendOrder k i).resetHeld = s.resetHeld ∧
    (s.sendOrder k i).event = s.event ∧ (s.sendOrder k i).hnd = s.hnd ∧ (s.sendOrder k i).cls = s.cls ∧
    (s.sendOrder k i).unit = s.unit ∧ (s.sendOrder k i).console = s.console ∧ (s.sendOrder k i).tim = s.tim ∧
    (s.sendOrder k i).supervision = s.supervision ∧ (s.sendOrder k i).reg = s.reg ∧
    (s.sendOrder k i).slot = s.slot ∧ (s.sendOrder k i).trainNotice = s.trainNotice ∧
    (s.sendOrder k i).plat = s.plat ∧ (s.sendOrder k i).pow.sections = s.pow.sections ∧
    (s.sendOrder k i).sect = s.sect ∧ (s.sendOrder k i).pow.pool = s.pow.pool ∧ (s.sendOrder k i).pool = s.pool ∧
    (s.sendOrder k i).pow.demand0 = s.pow.demand0 ∧ (s.sendOrder k i).pow.demand1 = s.pow.demand1 ∧
    (s.sendOrder k i).pow.demand2 = s.pow.demand2 ∧ (s.sendOrder k i).pow.demand3 = s.pow.demand3 ∧
    (s.sendOrder k i).inc = s.inc ∧ (s.sendOrder k i).kind = s.kind ∧ (s.sendOrder k i).incident = s.incident ∧
    (s.sendOrder k i).incNotice = s.incNotice ∧ (s.sendOrder k i).interlocked = s.interlocked ∧
    (s.sendOrder k i).fraction = s.fraction ∧ (s.sendOrder k i).platHeld = s.platHeld ∧
    (s.sendOrder k i).platHeadway = s.platHeadway ∧ (s.sendOrder k i).com = s.com ∧
    (s.sendOrder k i).station = s.station ∧ (s.sendOrder k i).template = s.template ∧
    (s.sendOrder k i).zone = s.zone ∧ (s.sendOrder k i).arming = s.arming ∧
    (s.sendOrder k i).consolePort = s.consolePort := by
  generalize ht : (s.sendOrder k i) = t
  unfold State.sendOrder at ht
  try dsimp only at ht
  (repeat' split at ht) <;> subst ht <;> simp

@[simp] theorem State.sendCell_keeps (s : State) (p : Nat) :
    (s.sendCell p).pending = s.pending ∧ (s.sendCell p).resetHeld = s.resetHeld ∧ (s.sendCell p).event = s.event ∧
    (s.sendCell p).hnd = s.hnd ∧ (s.sendCell p).cls = s.cls ∧ (s.sendCell p).unit = s.unit ∧
    (s.sendCell p).console = s.console ∧ (s.sendCell p).tim = s.tim ∧ (s.sendCell p).supervision = s.supervision ∧
    (s.sendCell p).reg.trains = s.reg.trains ∧ (s.sendCell p).slot = s.slot ∧
    (s.sendCell p).reg.notices = s.reg.notices ∧ (s.sendCell p).trainNotice = s.trainNotice ∧
    (s.sendCell p).reg.outcomes = s.reg.outcomes ∧ (s.sendCell p).reg.outcomeLoss = s.reg.outcomeLoss ∧
    (s.sendCell p).pow = s.pow ∧ (s.sendCell p).feeder = s.feeder ∧ (s.sendCell p).sect = s.sect ∧
    (s.sendCell p).pool = s.pool ∧ (s.sendCell p).inc = s.inc ∧ (s.sendCell p).kind = s.kind ∧
    (s.sendCell p).incident = s.incident ∧ (s.sendCell p).incNotice = s.incNotice ∧
    (s.sendCell p).interlocked = s.interlocked ∧ (s.sendCell p).fraction = s.fraction ∧
    (s.sendCell p).platHeld = s.platHeld ∧ (s.sendCell p).platHeadway = s.platHeadway ∧
    (s.sendCell p).com = s.com ∧ (s.sendCell p).station = s.station ∧ (s.sendCell p).template = s.template ∧
    (s.sendCell p).zone = s.zone ∧ (s.sendCell p).arming = s.arming ∧ (s.sendCell p).consolePort = s.consolePort := by
  generalize ht : (s.sendCell p) = t
  unfold State.sendCell at ht
  try dsimp only at ht
  (repeat' split at ht) <;> subst ht <;> simp

@[simp] theorem State.tryCell_keeps (s : State) (p : Nat) :
    (s.tryCell p).pending = s.pending ∧ (s.tryCell p).resetHeld = s.resetHeld ∧ (s.tryCell p).event = s.event ∧
    (s.tryCell p).hnd = s.hnd ∧ (s.tryCell p).cls = s.cls ∧ (s.tryCell p).unit = s.unit ∧
    (s.tryCell p).console = s.console ∧ (s.tryCell p).tim = s.tim ∧ (s.tryCell p).supervision = s.supervision ∧
    (s.tryCell p).reg.trains = s.reg.trains ∧ (s.tryCell p).slot = s.slot ∧
    (s.tryCell p).reg.notices = s.reg.notices ∧ (s.tryCell p).trainNotice = s.trainNotice ∧
    (s.tryCell p).reg.outcomes = s.reg.outcomes ∧ (s.tryCell p).reg.outcomeLoss = s.reg.outcomeLoss ∧
    (s.tryCell p).pow = s.pow ∧ (s.tryCell p).feeder = s.feeder ∧ (s.tryCell p).sect = s.sect ∧
    (s.tryCell p).pool = s.pool ∧ (s.tryCell p).inc = s.inc ∧ (s.tryCell p).kind = s.kind ∧
    (s.tryCell p).incident = s.incident ∧ (s.tryCell p).incNotice = s.incNotice ∧
    (s.tryCell p).interlocked = s.interlocked ∧ (s.tryCell p).fraction = s.fraction ∧
    (s.tryCell p).platHeld = s.platHeld ∧ (s.tryCell p).platHeadway = s.platHeadway ∧ (s.tryCell p).com = s.com ∧
    (s.tryCell p).station = s.station ∧ (s.tryCell p).template = s.template ∧ (s.tryCell p).zone = s.zone ∧
    (s.tryCell p).arming = s.arming ∧ (s.tryCell p).consolePort = s.consolePort := by
  generalize ht : (s.tryCell p) = t
  unfold State.tryCell at ht
  try dsimp only at ht
  (repeat' split at ht) <;> subst ht <;> simp

@[simp] theorem State.recompute_keeps (s : State) (p : Nat) :
    (s.recompute p).pending = s.pending ∧ (s.recompute p).resetHeld = s.resetHeld ∧
    (s.recompute p).event = s.event ∧ (s.recompute p).hnd = s.hnd ∧ (s.recompute p).cls = s.cls ∧
    (s.recompute p).unit = s.unit ∧ (s.recompute p).console = s.console ∧ (s.recompute p).tim = s.tim ∧
    (s.recompute p).supervision = s.supervision ∧ (s.recompute p).reg.trains = s.reg.trains ∧
    (s.recompute p).slot = s.slot ∧ (s.recompute p).reg.notices = s.reg.notices ∧
    (s.recompute p).trainNotice = s.trainNotice ∧ (s.recompute p).reg.outcomes = s.reg.outcomes ∧
    (s.recompute p).reg.outcomeLoss = s.reg.outcomeLoss ∧ (s.recompute p).pow = s.pow ∧
    (s.recompute p).feeder = s.feeder ∧ (s.recompute p).sect = s.sect ∧ (s.recompute p).pool = s.pool ∧
    (s.recompute p).inc = s.inc ∧ (s.recompute p).kind = s.kind ∧ (s.recompute p).incident = s.incident ∧
    (s.recompute p).incNotice = s.incNotice ∧ (s.recompute p).interlocked = s.interlocked ∧
    (s.recompute p).fraction = s.fraction ∧ (s.recompute p).platHeld = s.platHeld ∧
    (s.recompute p).platHeadway = s.platHeadway ∧ (s.recompute p).com = s.com ∧
    (s.recompute p).station = s.station ∧ (s.recompute p).template = s.template ∧ (s.recompute p).zone = s.zone ∧
    (s.recompute p).arming = s.arming ∧ (s.recompute p).consolePort = s.consolePort := by
  generalize ht : (s.recompute p) = t
  unfold State.recompute at ht
  try dsimp only at ht
  (repeat' split at ht) <;> subst ht <;> simp

@[simp] theorem State.recomputeAll_keeps (s : State) (ps : List Nat) :
    (s.recomputeAll ps).pending = s.pending ∧ (s.recomputeAll ps).resetHeld = s.resetHeld ∧
    (s.recomputeAll ps).event = s.event ∧ (s.recomputeAll ps).hnd = s.hnd ∧ (s.recomputeAll ps).cls = s.cls ∧
    (s.recomputeAll ps).unit = s.unit ∧ (s.recomputeAll ps).console = s.console ∧ (s.recomputeAll ps).tim = s.tim ∧
    (s.recomputeAll ps).supervision = s.supervision ∧ (s.recomputeAll ps).reg.trains = s.reg.trains ∧
    (s.recomputeAll ps).slot = s.slot ∧ (s.recomputeAll ps).reg.notices = s.reg.notices ∧
    (s.recomputeAll ps).trainNotice = s.trainNotice ∧ (s.recomputeAll ps).reg.outcomes = s.reg.outcomes ∧
    (s.recomputeAll ps).reg.outcomeLoss = s.reg.outcomeLoss ∧ (s.recomputeAll ps).pow = s.pow ∧
    (s.recomputeAll ps).feeder = s.feeder ∧ (s.recomputeAll ps).sect = s.sect ∧ (s.recomputeAll ps).pool = s.pool ∧
    (s.recomputeAll ps).inc = s.inc ∧ (s.recomputeAll ps).kind = s.kind ∧
    (s.recomputeAll ps).incident = s.incident ∧ (s.recomputeAll ps).incNotice = s.incNotice ∧
    (s.recomputeAll ps).interlocked = s.interlocked ∧ (s.recomputeAll ps).fraction = s.fraction ∧
    (s.recomputeAll ps).platHeld = s.platHeld ∧ (s.recomputeAll ps).platHeadway = s.platHeadway ∧
    (s.recomputeAll ps).com = s.com ∧ (s.recomputeAll ps).station = s.station ∧
    (s.recomputeAll ps).template = s.template ∧ (s.recomputeAll ps).zone = s.zone ∧
    (s.recomputeAll ps).arming = s.arming ∧ (s.recomputeAll ps).consolePort = s.consolePort := by
  generalize ht : (s.recomputeAll ps) = t
  unfold State.recomputeAll at ht
  try dsimp only at ht
  (repeat' split at ht) <;> subst ht <;> simp

@[simp] theorem State.queueLineTime_keeps (s : State) :
    s.queueLineTime.pending = s.pending ∧ s.queueLineTime.resetHeld = s.resetHeld ∧
    s.queueLineTime.event = s.event ∧ s.queueLineTime.hnd = s.hnd ∧ s.queueLineTime.cls = s.cls ∧
    s.queueLineTime.unit = s.unit ∧ s.queueLineTime.console = s.console ∧
    s.queueLineTime.tim.lineTime = s.tim.lineTime ∧ s.queueLineTime.tim.clockSet = s.tim.clockSet ∧
    s.queueLineTime.tim.slew = s.tim.slew ∧ s.queueLineTime.tim.phase = s.tim.phase ∧
    s.queueLineTime.tim.interval = s.tim.interval ∧ s.queueLineTime.tim.supervision = s.tim.supervision ∧
    s.queueLineTime.supervision = s.supervision ∧ s.queueLineTime.tim.correctionDue = s.tim.correctionDue ∧
    s.queueLineTime.tim.withhold = s.tim.withhold ∧ s.queueLineTime.tim.displayDue = s.tim.displayDue ∧
    s.queueLineTime.tim.publishDue = s.tim.publishDue ∧ s.queueLineTime.reg = s.reg ∧
    s.queueLineTime.slot = s.slot ∧ s.queueLineTime.trainNotice = s.trainNotice ∧ s.queueLineTime.plat = s.plat ∧
    s.queueLineTime.pow = s.pow ∧ s.queueLineTime.feeder = s.feeder ∧ s.queueLineTime.sect = s.sect ∧
    s.queueLineTime.pool = s.pool ∧ s.queueLineTime.inc = s.inc ∧ s.queueLineTime.kind = s.kind ∧
    s.queueLineTime.incident = s.incident ∧ s.queueLineTime.incNotice = s.incNotice ∧
    s.queueLineTime.interlocked = s.interlocked ∧ s.queueLineTime.fraction = s.fraction ∧
    s.queueLineTime.platHeld = s.platHeld ∧ s.queueLineTime.platHeadway = s.platHeadway ∧
    s.queueLineTime.com = s.com ∧ s.queueLineTime.station = s.station ∧ s.queueLineTime.template = s.template ∧
    s.queueLineTime.zone = s.zone ∧ s.queueLineTime.arming = s.arming ∧ s.queueLineTime.consolePort = s.consolePort := by
  generalize ht : s.queueLineTime = t
  unfold State.queueLineTime at ht
  try dsimp only at ht
  (repeat' split at ht) <;> subst ht <;> simp

@[simp] theorem State.queueZoneFrame_keeps (s : State) (k : Nat) (q : Lane) :
    (s.queueZoneFrame k q).pending = s.pending ∧ (s.queueZoneFrame k q).resetHeld = s.resetHeld ∧
    (s.queueZoneFrame k q).event = s.event ∧ (s.queueZoneFrame k q).hnd = s.hnd ∧
    (s.queueZoneFrame k q).cls = s.cls ∧ (s.queueZoneFrame k q).unit = s.unit ∧
    (s.queueZoneFrame k q).console = s.console ∧ (s.queueZoneFrame k q).tim = s.tim ∧
    (s.queueZoneFrame k q).supervision = s.supervision ∧ (s.queueZoneFrame k q).reg = s.reg ∧
    (s.queueZoneFrame k q).slot = s.slot ∧ (s.queueZoneFrame k q).trainNotice = s.trainNotice ∧
    (s.queueZoneFrame k q).plat = s.plat ∧ (s.queueZoneFrame k q).pow = s.pow ∧
    (s.queueZoneFrame k q).feeder = s.feeder ∧ (s.queueZoneFrame k q).sect = s.sect ∧
    (s.queueZoneFrame k q).pool = s.pool ∧ (s.queueZoneFrame k q).inc = s.inc ∧
    (s.queueZoneFrame k q).kind = s.kind ∧ (s.queueZoneFrame k q).incident = s.incident ∧
    (s.queueZoneFrame k q).incNotice = s.incNotice ∧ (s.queueZoneFrame k q).interlocked = s.interlocked ∧
    (s.queueZoneFrame k q).fraction = s.fraction ∧ (s.queueZoneFrame k q).platHeld = s.platHeld ∧
    (s.queueZoneFrame k q).platHeadway = s.platHeadway ∧ (s.queueZoneFrame k q).com.stations = s.com.stations ∧
    (s.queueZoneFrame k q).station = s.station ∧ (s.queueZoneFrame k q).com.templates = s.com.templates ∧
    (s.queueZoneFrame k q).template = s.template ∧ (s.queueZoneFrame k q).com.armings = s.com.armings ∧
    (s.queueZoneFrame k q).arming = s.arming ∧ (s.queueZoneFrame k q).com.zoneDrops = s.com.zoneDrops ∧
    (s.queueZoneFrame k q).consolePort = s.consolePort := by
  generalize ht : (s.queueZoneFrame k q) = t
  unfold State.queueZoneFrame at ht
  try dsimp only at ht
  (repeat' split at ht) <;> subst ht <;> simp

@[simp] theorem State.sendFrame_keeps (s : State) (k idx tag run : Nat) :
    (s.sendFrame k idx tag run).pending = s.pending ∧ (s.sendFrame k idx tag run).resetHeld = s.resetHeld ∧
    (s.sendFrame k idx tag run).event = s.event ∧ (s.sendFrame k idx tag run).hnd = s.hnd ∧
    (s.sendFrame k idx tag run).cls = s.cls ∧ (s.sendFrame k idx tag run).unit = s.unit ∧
    (s.sendFrame k idx tag run).console = s.console ∧ (s.sendFrame k idx tag run).tim = s.tim ∧
    (s.sendFrame k idx tag run).supervision = s.supervision ∧ (s.sendFrame k idx tag run).reg = s.reg ∧
    (s.sendFrame k idx tag run).slot = s.slot ∧ (s.sendFrame k idx tag run).trainNotice = s.trainNotice ∧
    (s.sendFrame k idx tag run).plat = s.plat ∧ (s.sendFrame k idx tag run).pow = s.pow ∧
    (s.sendFrame k idx tag run).feeder = s.feeder ∧ (s.sendFrame k idx tag run).sect = s.sect ∧
    (s.sendFrame k idx tag run).pool = s.pool ∧ (s.sendFrame k idx tag run).inc = s.inc ∧
    (s.sendFrame k idx tag run).kind = s.kind ∧ (s.sendFrame k idx tag run).incident = s.incident ∧
    (s.sendFrame k idx tag run).incNotice = s.incNotice ∧ (s.sendFrame k idx tag run).interlocked = s.interlocked ∧
    (s.sendFrame k idx tag run).fraction = s.fraction ∧ (s.sendFrame k idx tag run).platHeld = s.platHeld ∧
    (s.sendFrame k idx tag run).platHeadway = s.platHeadway ∧
    (s.sendFrame k idx tag run).com.stations = s.com.stations ∧ (s.sendFrame k idx tag run).station = s.station ∧
    (s.sendFrame k idx tag run).com.templates = s.com.templates ∧
    (s.sendFrame k idx tag run).template = s.template ∧ (s.sendFrame k idx tag run).com.armings = s.com.armings ∧
    (s.sendFrame k idx tag run).arming = s.arming ∧ (s.sendFrame k idx tag run).com.zoneDrops = s.com.zoneDrops ∧
    (s.sendFrame k idx tag run).consolePort = s.consolePort := by
  generalize ht : (s.sendFrame k idx tag run) = t
  unfold State.sendFrame at ht
  try dsimp only at ht
  (repeat' split at ht) <;> subst ht <;> simp

@[simp] theorem State.sendAbort_keeps (s : State) (k : Nat) :
    (s.sendAbort k).pending = s.pending ∧ (s.sendAbort k).resetHeld = s.resetHeld ∧
    (s.sendAbort k).event = s.event ∧ (s.sendAbort k).hnd = s.hnd ∧ (s.sendAbort k).cls = s.cls ∧
    (s.sendAbort k).unit = s.unit ∧ (s.sendAbort k).console = s.console ∧ (s.sendAbort k).tim = s.tim ∧
    (s.sendAbort k).supervision = s.supervision ∧ (s.sendAbort k).reg = s.reg ∧ (s.sendAbort k).slot = s.slot ∧
    (s.sendAbort k).trainNotice = s.trainNotice ∧ (s.sendAbort k).plat = s.plat ∧ (s.sendAbort k).pow = s.pow ∧
    (s.sendAbort k).feeder = s.feeder ∧ (s.sendAbort k).sect = s.sect ∧ (s.sendAbort k).pool = s.pool ∧
    (s.sendAbort k).inc = s.inc ∧ (s.sendAbort k).kind = s.kind ∧ (s.sendAbort k).incident = s.incident ∧
    (s.sendAbort k).incNotice = s.incNotice ∧ (s.sendAbort k).interlocked = s.interlocked ∧
    (s.sendAbort k).fraction = s.fraction ∧ (s.sendAbort k).platHeld = s.platHeld ∧
    (s.sendAbort k).platHeadway = s.platHeadway ∧ (s.sendAbort k).com.stations = s.com.stations ∧
    (s.sendAbort k).station = s.station ∧ (s.sendAbort k).com.templates = s.com.templates ∧
    (s.sendAbort k).template = s.template ∧ (s.sendAbort k).com.armings = s.com.armings ∧
    (s.sendAbort k).arming = s.arming ∧ (s.sendAbort k).com.zoneDrops = s.com.zoneDrops ∧
    (s.sendAbort k).consolePort = s.consolePort := by
  generalize ht : (s.sendAbort k) = t
  unfold State.sendAbort at ht
  try dsimp only at ht
  (repeat' split at ht) <;> subst ht <;> simp

@[simp] theorem State.giveTrain_keeps (s : State) (q : Lane) :
    (s.giveTrain q).pending = s.pending ∧ (s.giveTrain q).resetHeld = s.resetHeld ∧
    (s.giveTrain q).event = s.event ∧ (s.giveTrain q).hnd = s.hnd ∧ (s.giveTrain q).cls = s.cls ∧
    (s.giveTrain q).unit = s.unit ∧ (s.giveTrain q).console = s.console ∧ (s.giveTrain q).tim = s.tim ∧
    (s.giveTrain q).supervision = s.supervision ∧ (s.giveTrain q).reg.notices = s.reg.notices ∧
    (s.giveTrain q).trainNotice = s.trainNotice ∧ (s.giveTrain q).reg.outcomes = s.reg.outcomes ∧
    (s.giveTrain q).reg.outcomeLoss = s.reg.outcomeLoss ∧ (s.giveTrain q).pow = s.pow ∧
    (s.giveTrain q).feeder = s.feeder ∧ (s.giveTrain q).sect = s.sect ∧ (s.giveTrain q).pool = s.pool ∧
    (s.giveTrain q).inc = s.inc ∧ (s.giveTrain q).kind = s.kind ∧ (s.giveTrain q).incident = s.incident ∧
    (s.giveTrain q).incNotice = s.incNotice ∧ (s.giveTrain q).interlocked = s.interlocked ∧
    (s.giveTrain q).fraction = s.fraction ∧ (s.giveTrain q).platHeld = s.platHeld ∧
    (s.giveTrain q).platHeadway = s.platHeadway ∧ (s.giveTrain q).com = s.com ∧
    (s.giveTrain q).station = s.station ∧ (s.giveTrain q).template = s.template ∧ (s.giveTrain q).zone = s.zone ∧
    (s.giveTrain q).arming = s.arming ∧ (s.giveTrain q).consolePort = s.consolePort := by
  generalize ht : (s.giveTrain q) = t
  unfold State.giveTrain at ht
  try dsimp only at ht
  (repeat' split at ht) <;> subst ht <;> simp

@[simp] theorem State.giveOrder_keeps (s : State) (q : Lane) :
    (s.giveOrder q).pending = s.pending ∧ (s.giveOrder q).resetHeld = s.resetHeld ∧
    (s.giveOrder q).event = s.event ∧ (s.giveOrder q).hnd = s.hnd ∧ (s.giveOrder q).cls = s.cls ∧
    (s.giveOrder q).unit = s.unit ∧ (s.giveOrder q).console = s.console ∧ (s.giveOrder q).tim = s.tim ∧
    (s.giveOrder q).supervision = s.supervision ∧ (s.giveOrder q).reg = s.reg ∧ (s.giveOrder q).slot = s.slot ∧
    (s.giveOrder q).trainNotice = s.trainNotice ∧ (s.giveOrder q).plat = s.plat ∧
    (s.giveOrder q).pow.sections = s.pow.sections ∧ (s.giveOrder q).sect = s.sect ∧
    (s.giveOrder q).pow.pool = s.pow.pool ∧ (s.giveOrder q).pool = s.pool ∧
    (s.giveOrder q).pow.demand0 = s.pow.demand0 ∧ (s.giveOrder q).pow.demand1 = s.pow.demand1 ∧
    (s.giveOrder q).pow.demand2 = s.pow.demand2 ∧ (s.giveOrder q).pow.demand3 = s.pow.demand3 ∧
    (s.giveOrder q).inc = s.inc ∧ (s.giveOrder q).kind = s.kind ∧ (s.giveOrder q).incident = s.incident ∧
    (s.giveOrder q).incNotice = s.incNotice ∧ (s.giveOrder q).interlocked = s.interlocked ∧
    (s.giveOrder q).fraction = s.fraction ∧ (s.giveOrder q).platHeld = s.platHeld ∧
    (s.giveOrder q).platHeadway = s.platHeadway ∧ (s.giveOrder q).com = s.com ∧
    (s.giveOrder q).station = s.station ∧ (s.giveOrder q).template = s.template ∧ (s.giveOrder q).zone = s.zone ∧
    (s.giveOrder q).arming = s.arming ∧ (s.giveOrder q).consolePort = s.consolePort := by
  generalize ht : (s.giveOrder q) = t
  unfold State.giveOrder at ht
  try dsimp only at ht
  (repeat' split at ht) <;> subst ht <;> simp

@[simp] theorem State.giveZone_keeps (s : State) (q : Lane) :
    (s.giveZone q).pending = s.pending ∧ (s.giveZone q).resetHeld = s.resetHeld ∧ (s.giveZone q).event = s.event ∧
    (s.giveZone q).hnd = s.hnd ∧ (s.giveZone q).cls = s.cls ∧ (s.giveZone q).unit = s.unit ∧
    (s.giveZone q).console = s.console ∧ (s.giveZone q).tim = s.tim ∧ (s.giveZone q).supervision = s.supervision ∧
    (s.giveZone q).reg = s.reg ∧ (s.giveZone q).slot = s.slot ∧ (s.giveZone q).trainNotice = s.trainNotice ∧
    (s.giveZone q).plat = s.plat ∧ (s.giveZone q).pow = s.pow ∧ (s.giveZone q).feeder = s.feeder ∧
    (s.giveZone q).sect = s.sect ∧ (s.giveZone q).pool = s.pool ∧ (s.giveZone q).inc = s.inc ∧
    (s.giveZone q).kind = s.kind ∧ (s.giveZone q).incident = s.incident ∧ (s.giveZone q).incNotice = s.incNotice ∧
    (s.giveZone q).interlocked = s.interlocked ∧ (s.giveZone q).fraction = s.fraction ∧
    (s.giveZone q).platHeld = s.platHeld ∧ (s.giveZone q).platHeadway = s.platHeadway ∧
    (s.giveZone q).com.stations = s.com.stations ∧ (s.giveZone q).station = s.station ∧
    (s.giveZone q).com.templates = s.com.templates ∧ (s.giveZone q).template = s.template ∧
    (s.giveZone q).com.armings = s.com.armings ∧ (s.giveZone q).arming = s.arming ∧
    (s.giveZone q).com.zoneDrops = s.com.zoneDrops ∧ (s.giveZone q).consolePort = s.consolePort := by
  generalize ht : (s.giveZone q) = t
  unfold State.giveZone at ht
  try dsimp only at ht
  (repeat' split at ht) <;> subst ht <;> simp

@[simp] theorem State.giveTrainNotice_keeps (s : State) :
    s.giveTrainNotice.pending = s.pending ∧ s.giveTrainNotice.resetHeld = s.resetHeld ∧
    s.giveTrainNotice.event = s.event ∧ s.giveTrainNotice.hnd = s.hnd ∧ s.giveTrainNotice.cls = s.cls ∧
    s.giveTrainNotice.unit = s.unit ∧ s.giveTrainNotice.console = s.console ∧ s.giveTrainNotice.tim = s.tim ∧
    s.giveTrainNotice.supervision = s.supervision ∧ s.giveTrainNotice.reg.trains = s.reg.trains ∧
    s.giveTrainNotice.slot = s.slot ∧ s.giveTrainNotice.reg.platforms = s.reg.platforms ∧
    s.giveTrainNotice.plat = s.plat ∧ s.giveTrainNotice.reg.outcomeLoss = s.reg.outcomeLoss ∧
    s.giveTrainNotice.pow = s.pow ∧ s.giveTrainNotice.feeder = s.feeder ∧ s.giveTrainNotice.sect = s.sect ∧
    s.giveTrainNotice.pool = s.pool ∧ s.giveTrainNotice.inc = s.inc ∧ s.giveTrainNotice.kind = s.kind ∧
    s.giveTrainNotice.incident = s.incident ∧ s.giveTrainNotice.incNotice = s.incNotice ∧
    s.giveTrainNotice.interlocked = s.interlocked ∧ s.giveTrainNotice.fraction = s.fraction ∧
    s.giveTrainNotice.platHeld = s.platHeld ∧ s.giveTrainNotice.platHeadway = s.platHeadway ∧
    s.giveTrainNotice.com = s.com ∧ s.giveTrainNotice.station = s.station ∧
    s.giveTrainNotice.template = s.template ∧ s.giveTrainNotice.zone = s.zone ∧
    s.giveTrainNotice.arming = s.arming ∧ s.giveTrainNotice.fieldPort = s.fieldPort := by
  generalize ht : s.giveTrainNotice = t
  unfold State.giveTrainNotice at ht
  try dsimp only at ht
  (repeat' split at ht) <;> subst ht <;> simp

@[simp] theorem State.giveSectNotice_keeps (s : State) :
    s.giveSectNotice.pending = s.pending ∧ s.giveSectNotice.resetHeld = s.resetHeld ∧
    s.giveSectNotice.event = s.event ∧ s.giveSectNotice.hnd = s.hnd ∧ s.giveSectNotice.cls = s.cls ∧
    s.giveSectNotice.unit = s.unit ∧ s.giveSectNotice.console = s.console ∧ s.giveSectNotice.tim = s.tim ∧
    s.giveSectNotice.supervision = s.supervision ∧ s.giveSectNotice.reg = s.reg ∧ s.giveSectNotice.slot = s.slot ∧
    s.giveSectNotice.trainNotice = s.trainNotice ∧ s.giveSectNotice.plat = s.plat ∧
    s.giveSectNotice.pow.feeders = s.pow.feeders ∧ s.giveSectNotice.feeder = s.feeder ∧
    s.giveSectNotice.pow.pool = s.pow.pool ∧ s.giveSectNotice.pool = s.pool ∧
    s.giveSectNotice.pow.demand0 = s.pow.demand0 ∧ s.giveSectNotice.pow.demand1 = s.pow.demand1 ∧
    s.giveSectNotice.pow.demand2 = s.pow.demand2 ∧ s.giveSectNotice.pow.demand3 = s.pow.demand3 ∧
    s.giveSectNotice.inc = s.inc ∧ s.giveSectNotice.kind = s.kind ∧ s.giveSectNotice.incident = s.incident ∧
    s.giveSectNotice.incNotice = s.incNotice ∧ s.giveSectNotice.interlocked = s.interlocked ∧
    s.giveSectNotice.fraction = s.fraction ∧ s.giveSectNotice.platHeld = s.platHeld ∧
    s.giveSectNotice.platHeadway = s.platHeadway ∧ s.giveSectNotice.com = s.com ∧
    s.giveSectNotice.station = s.station ∧ s.giveSectNotice.template = s.template ∧
    s.giveSectNotice.zone = s.zone ∧ s.giveSectNotice.arming = s.arming ∧ s.giveSectNotice.fieldPort = s.fieldPort := by
  generalize ht : s.giveSectNotice = t
  unfold State.giveSectNotice at ht
  try dsimp only at ht
  (repeat' split at ht) <;> subst ht <;> simp

@[simp] theorem State.giveIncNotice_keeps (s : State) (q : Lane) :
    (s.giveIncNotice q).pending = s.pending ∧ (s.giveIncNotice q).resetHeld = s.resetHeld ∧
    (s.giveIncNotice q).event = s.event ∧ (s.giveIncNotice q).hnd = s.hnd ∧ (s.giveIncNotice q).cls = s.cls ∧
    (s.giveIncNotice q).unit = s.unit ∧ (s.giveIncNotice q).console = s.console ∧ (s.giveIncNotice q).tim = s.tim ∧
    (s.giveIncNotice q).supervision = s.supervision ∧ (s.giveIncNotice q).reg = s.reg ∧
    (s.giveIncNotice q).slot = s.slot ∧ (s.giveIncNotice q).trainNotice = s.trainNotice ∧
    (s.giveIncNotice q).plat = s.plat ∧ (s.giveIncNotice q).pow = s.pow ∧ (s.giveIncNotice q).feeder = s.feeder ∧
    (s.giveIncNotice q).sect = s.sect ∧ (s.giveIncNotice q).pool = s.pool ∧
    (s.giveIncNotice q).inc.kinds = s.inc.kinds ∧ (s.giveIncNotice q).kind = s.kind ∧
    (s.giveIncNotice q).inc.entries = s.inc.entries ∧ (s.giveIncNotice q).incident = s.incident ∧
    (s.giveIncNotice q).inc.cleared = s.inc.cleared ∧ (s.giveIncNotice q).inc.nextNumber = s.inc.nextNumber ∧
    (s.giveIncNotice q).inc.overflow = s.inc.overflow ∧ (s.giveIncNotice q).inc.interlock = s.inc.interlock ∧
    (s.giveIncNotice q).interlocked = s.interlocked ∧ (s.giveIncNotice q).inc.fraction = s.inc.fraction ∧
    (s.giveIncNotice q).fraction = s.fraction ∧ (s.giveIncNotice q).inc.held = s.inc.held ∧
    (s.giveIncNotice q).platHeld = s.platHeld ∧ (s.giveIncNotice q).inc.headway = s.inc.headway ∧
    (s.giveIncNotice q).platHeadway = s.platHeadway ∧ (s.giveIncNotice q).com = s.com ∧
    (s.giveIncNotice q).station = s.station ∧ (s.giveIncNotice q).template = s.template ∧
    (s.giveIncNotice q).zone = s.zone ∧ (s.giveIncNotice q).arming = s.arming ∧
    (s.giveIncNotice q).fieldPort = s.fieldPort := by
  generalize ht : (s.giveIncNotice q) = t
  unfold State.giveIncNotice at ht
  try dsimp only at ht
  (repeat' split at ht) <;> subst ht <;> simp

@[simp] theorem State.giveZoneNotice_keeps (s : State) :
    s.giveZoneNotice.pending = s.pending ∧ s.giveZoneNotice.resetHeld = s.resetHeld ∧
    s.giveZoneNotice.event = s.event ∧ s.giveZoneNotice.hnd = s.hnd ∧ s.giveZoneNotice.cls = s.cls ∧
    s.giveZoneNotice.unit = s.unit ∧ s.giveZoneNotice.console = s.console ∧ s.giveZoneNotice.tim = s.tim ∧
    s.giveZoneNotice.supervision = s.supervision ∧ s.giveZoneNotice.reg = s.reg ∧ s.giveZoneNotice.slot = s.slot ∧
    s.giveZoneNotice.trainNotice = s.trainNotice ∧ s.giveZoneNotice.plat = s.plat ∧ s.giveZoneNotice.pow = s.pow ∧
    s.giveZoneNotice.feeder = s.feeder ∧ s.giveZoneNotice.sect = s.sect ∧ s.giveZoneNotice.pool = s.pool ∧
    s.giveZoneNotice.inc = s.inc ∧ s.giveZoneNotice.kind = s.kind ∧ s.giveZoneNotice.incident = s.incident ∧
    s.giveZoneNotice.incNotice = s.incNotice ∧ s.giveZoneNotice.interlocked = s.interlocked ∧
    s.giveZoneNotice.fraction = s.fraction ∧ s.giveZoneNotice.platHeld = s.platHeld ∧
    s.giveZoneNotice.platHeadway = s.platHeadway ∧ s.giveZoneNotice.com.stations = s.com.stations ∧
    s.giveZoneNotice.station = s.station ∧ s.giveZoneNotice.com.templates = s.com.templates ∧
    s.giveZoneNotice.template = s.template ∧ s.giveZoneNotice.com.armings = s.com.armings ∧
    s.giveZoneNotice.arming = s.arming ∧ s.giveZoneNotice.com.zoneDrops = s.com.zoneDrops ∧
    s.giveZoneNotice.fieldPort = s.fieldPort := by
  generalize ht : s.giveZoneNotice = t
  unfold State.giveZoneNotice at ht
  try dsimp only at ht
  (repeat' split at ht) <;> subst ht <;> simp

@[simp] theorem State.giveReply_keeps (s : State) (q : Lane) :
    (s.giveReply q).pending = s.pending ∧ (s.giveReply q).resetHeld = s.resetHeld ∧
    (s.giveReply q).event = s.event ∧ (s.giveReply q).hnd.op = s.hnd.op ∧ (s.giveReply q).cls = s.cls ∧
    (s.giveReply q).unit = s.unit ∧ (s.giveReply q).console = s.console ∧ (s.giveReply q).tim = s.tim ∧
    (s.giveReply q).supervision = s.supervision ∧ (s.giveReply q).reg = s.reg ∧ (s.giveReply q).slot = s.slot ∧
    (s.giveReply q).trainNotice = s.trainNotice ∧ (s.giveReply q).plat = s.plat ∧ (s.giveReply q).pow = s.pow ∧
    (s.giveReply q).feeder = s.feeder ∧ (s.giveReply q).sect = s.sect ∧ (s.giveReply q).pool = s.pool ∧
    (s.giveReply q).inc = s.inc ∧ (s.giveReply q).kind = s.kind ∧ (s.giveReply q).incident = s.incident ∧
    (s.giveReply q).incNotice = s.incNotice ∧ (s.giveReply q).interlocked = s.interlocked ∧
    (s.giveReply q).fraction = s.fraction ∧ (s.giveReply q).platHeld = s.platHeld ∧
    (s.giveReply q).platHeadway = s.platHeadway ∧ (s.giveReply q).com = s.com ∧
    (s.giveReply q).station = s.station ∧ (s.giveReply q).template = s.template ∧ (s.giveReply q).zone = s.zone ∧
    (s.giveReply q).arming = s.arming ∧ (s.giveReply q).fieldPort = s.fieldPort := by
  generalize ht : (s.giveReply q) = t
  unfold State.giveReply at ht
  try dsimp only at ht
  (repeat' split at ht) <;> subst ht <;> simp

@[simp] theorem State.give_keeps (s : State) (p : Port) (q : Lane) (b : Block) :
    (s.give p q b).pending = s.pending ∧ (s.give p q b).resetHeld = s.resetHeld ∧ (s.give p q b).event = s.event ∧
    (s.give p q b).hnd.op = s.hnd.op ∧ (s.give p q b).cls = s.cls ∧ (s.give p q b).unit = s.unit ∧
    (s.give p q b).console = s.console ∧ (s.give p q b).tim.lineTime = s.tim.lineTime ∧
    (s.give p q b).tim.clockSet = s.tim.clockSet ∧ (s.give p q b).tim.slew = s.tim.slew ∧
    (s.give p q b).tim.phase = s.tim.phase ∧ (s.give p q b).tim.interval = s.tim.interval ∧
    (s.give p q b).tim.supervision = s.tim.supervision ∧ (s.give p q b).supervision = s.supervision ∧
    (s.give p q b).tim.correctionDue = s.tim.correctionDue ∧ (s.give p q b).tim.withhold = s.tim.withhold ∧
    (s.give p q b).tim.displayDue = s.tim.displayDue ∧ (s.give p q b).tim.publishDue = s.tim.publishDue ∧
    (s.give p q b).reg.outcomeLoss = s.reg.outcomeLoss ∧ (s.give p q b).pow.pool = s.pow.pool ∧
    (s.give p q b).pool = s.pool ∧ (s.give p q b).pow.demand0 = s.pow.demand0 ∧
    (s.give p q b).pow.demand1 = s.pow.demand1 ∧ (s.give p q b).pow.demand2 = s.pow.demand2 ∧
    (s.give p q b).pow.demand3 = s.pow.demand3 ∧ (s.give p q b).inc.kinds = s.inc.kinds ∧
    (s.give p q b).kind = s.kind ∧ (s.give p q b).inc.entries = s.inc.entries ∧
    (s.give p q b).incident = s.incident ∧ (s.give p q b).inc.cleared = s.inc.cleared ∧
    (s.give p q b).inc.nextNumber = s.inc.nextNumber ∧ (s.give p q b).inc.overflow = s.inc.overflow ∧
    (s.give p q b).inc.interlock = s.inc.interlock ∧ (s.give p q b).interlocked = s.interlocked ∧
    (s.give p q b).inc.fraction = s.inc.fraction ∧ (s.give p q b).fraction = s.fraction ∧
    (s.give p q b).inc.held = s.inc.held ∧ (s.give p q b).platHeld = s.platHeld ∧
    (s.give p q b).inc.headway = s.inc.headway ∧ (s.give p q b).platHeadway = s.platHeadway ∧
    (s.give p q b).com.stations = s.com.stations ∧ (s.give p q b).station = s.station ∧
    (s.give p q b).com.templates = s.com.templates ∧ (s.give p q b).template = s.template ∧
    (s.give p q b).com.armings = s.com.armings ∧ (s.give p q b).arming = s.arming ∧
    (s.give p q b).com.zoneDrops = s.com.zoneDrops := by
  generalize ht : (s.give p q b) = t
  unfold State.give at ht
  try dsimp only at ht
  (repeat' split at ht) <;> subst ht <;> simp

/-! ## Admission -/

@[simp] theorem State.modStay_keeps (s : State) (t : Nat) (f : CallRecord → CallRecord) (g : Stay → Stay) :
    (s.modStay t f g).pending = s.pending ∧ (s.modStay t f g).resetHeld = s.resetHeld ∧
    (s.modStay t f g).event = s.event ∧ (s.modStay t f g).hnd = s.hnd ∧ (s.modStay t f g).cls = s.cls ∧
    (s.modStay t f g).unit = s.unit ∧ (s.modStay t f g).console = s.console ∧ (s.modStay t f g).tim = s.tim ∧
    (s.modStay t f g).supervision = s.supervision ∧ (s.modStay t f g).reg.notices = s.reg.notices ∧
    (s.modStay t f g).trainNotice = s.trainNotice ∧ (s.modStay t f g).reg.outcomes = s.reg.outcomes ∧
    (s.modStay t f g).reg.outcomeLoss = s.reg.outcomeLoss ∧ (s.modStay t f g).pow = s.pow ∧
    (s.modStay t f g).feeder = s.feeder ∧ (s.modStay t f g).sect = s.sect ∧ (s.modStay t f g).pool = s.pool ∧
    (s.modStay t f g).inc = s.inc ∧ (s.modStay t f g).kind = s.kind ∧ (s.modStay t f g).incident = s.incident ∧
    (s.modStay t f g).incNotice = s.incNotice ∧ (s.modStay t f g).interlocked = s.interlocked ∧
    (s.modStay t f g).fraction = s.fraction ∧ (s.modStay t f g).platHeld = s.platHeld ∧
    (s.modStay t f g).platHeadway = s.platHeadway ∧ (s.modStay t f g).com = s.com ∧
    (s.modStay t f g).station = s.station ∧ (s.modStay t f g).template = s.template ∧
    (s.modStay t f g).zone = s.zone ∧ (s.modStay t f g).arming = s.arming ∧
    (s.modStay t f g).fieldPort = s.fieldPort ∧ (s.modStay t f g).consolePort = s.consolePort := by
  generalize ht : (s.modStay t f g) = t
  unfold State.modStay at ht
  try dsimp only at ht
  (repeat' split at ht) <;> subst ht <;> simp

@[simp] theorem State.reserve_keeps (s : State) (t k i a : Nat) (r : Bool) :
    (s.reserve t k i a r).pending = s.pending ∧ (s.reserve t k i a r).resetHeld = s.resetHeld ∧
    (s.reserve t k i a r).event = s.event ∧ (s.reserve t k i a r).hnd = s.hnd ∧ (s.reserve t k i a r).cls = s.cls ∧
    (s.reserve t k i a r).unit = s.unit ∧ (s.reserve t k i a r).console = s.console ∧
    (s.reserve t k i a r).tim = s.tim ∧ (s.reserve t k i a r).supervision = s.supervision ∧
    (s.reserve t k i a r).reg = s.reg ∧ (s.reserve t k i a r).slot = s.slot ∧
    (s.reserve t k i a r).trainNotice = s.trainNotice ∧ (s.reserve t k i a r).plat = s.plat ∧
    (s.reserve t k i a r).pow.feeders = s.pow.feeders ∧ (s.reserve t k i a r).feeder = s.feeder ∧
    (s.reserve t k i a r).pow.demand0 = s.pow.demand0 ∧ (s.reserve t k i a r).pow.demand1 = s.pow.demand1 ∧
    (s.reserve t k i a r).pow.demand2 = s.pow.demand2 ∧ (s.reserve t k i a r).pow.demand3 = s.pow.demand3 ∧
    (s.reserve t k i a r).inc = s.inc ∧ (s.reserve t k i a r).kind = s.kind ∧
    (s.reserve t k i a r).incident = s.incident ∧ (s.reserve t k i a r).incNotice = s.incNotice ∧
    (s.reserve t k i a r).interlocked = s.interlocked ∧ (s.reserve t k i a r).fraction = s.fraction ∧
    (s.reserve t k i a r).platHeld = s.platHeld ∧ (s.reserve t k i a r).platHeadway = s.platHeadway ∧
    (s.reserve t k i a r).com = s.com ∧ (s.reserve t k i a r).station = s.station ∧
    (s.reserve t k i a r).template = s.template ∧ (s.reserve t k i a r).zone = s.zone ∧
    (s.reserve t k i a r).arming = s.arming ∧ (s.reserve t k i a r).fieldPort = s.fieldPort ∧
    (s.reserve t k i a r).consolePort = s.consolePort := by
  generalize ht : (s.reserve t k i a r) = t
  unfold State.reserve at ht
  try dsimp only at ht
  (repeat' split at ht) <;> subst ht <;> simp

@[simp] theorem State.granted_keeps (s : State) (t k l : Nat) (r : Bool) :
    (s.granted t k l r).pending = s.pending ∧ (s.granted t k l r).resetHeld = s.resetHeld ∧
    (s.granted t k l r).event = s.event ∧ (s.granted t k l r).hnd = s.hnd ∧ (s.granted t k l r).cls = s.cls ∧
    (s.granted t k l r).unit = s.unit ∧ (s.granted t k l r).console = s.console ∧ (s.granted t k l r).tim = s.tim ∧
    (s.granted t k l r).supervision = s.supervision ∧ (s.granted t k l r).reg.notices = s.reg.notices ∧
    (s.granted t k l r).trainNotice = s.trainNotice ∧ (s.granted t k l r).reg.outcomes = s.reg.outcomes ∧
    (s.granted t k l r).reg.outcomeLoss = s.reg.outcomeLoss ∧ (s.granted t k l r).pow = s.pow ∧
    (s.granted t k l r).feeder = s.feeder ∧ (s.granted t k l r).sect = s.sect ∧ (s.granted t k l r).pool = s.pool ∧
    (s.granted t k l r).inc = s.inc ∧ (s.granted t k l r).kind = s.kind ∧
    (s.granted t k l r).incident = s.incident ∧ (s.granted t k l r).incNotice = s.incNotice ∧
    (s.granted t k l r).interlocked = s.interlocked ∧ (s.granted t k l r).fraction = s.fraction ∧
    (s.granted t k l r).platHeld = s.platHeld ∧ (s.granted t k l r).platHeadway = s.platHeadway ∧
    (s.granted t k l r).com = s.com ∧ (s.granted t k l r).station = s.station ∧
    (s.granted t k l r).template = s.template ∧ (s.granted t k l r).zone = s.zone ∧
    (s.granted t k l r).arming = s.arming ∧ (s.granted t k l r).consolePort = s.consolePort := by
  generalize ht : (s.granted t k l r) = t
  unfold State.granted at ht
  try dsimp only at ht
  (repeat' split at ht) <;> subst ht <;> simp

theorem State.testHead_keeps {s s' : State} {k : Nat} (h : s.testHead k = some s') :
    s'.pending = s.pending ∧ s'.resetHeld = s.resetHeld ∧ s'.event = s.event ∧ s'.hnd = s.hnd ∧ s'.cls = s.cls ∧
    s'.unit = s.unit ∧ s'.console = s.console ∧ s'.tim = s.tim ∧ s'.supervision = s.supervision ∧
    s'.reg.notices = s.reg.notices ∧ s'.trainNotice = s.trainNotice ∧ s'.reg.outcomes = s.reg.outcomes ∧
    s'.reg.outcomeLoss = s.reg.outcomeLoss ∧ s'.pow.feeders = s.pow.feeders ∧ s'.feeder = s.feeder ∧
    s'.pow.demand0 = s.pow.demand0 ∧ s'.pow.demand1 = s.pow.demand1 ∧ s'.pow.demand2 = s.pow.demand2 ∧
    s'.pow.demand3 = s.pow.demand3 ∧ s'.inc = s.inc ∧ s'.kind = s.kind ∧ s'.incident = s.incident ∧
    s'.incNotice = s.incNotice ∧ s'.interlocked = s.interlocked ∧ s'.fraction = s.fraction ∧
    s'.platHeld = s.platHeld ∧ s'.platHeadway = s.platHeadway ∧ s'.com = s.com ∧ s'.station = s.station ∧
    s'.template = s.template ∧ s'.zone = s.zone ∧ s'.arming = s.arming ∧ s'.consolePort = s.consolePort := by
  simp only [State.testHead] at h
  (repeat' split at h) <;> simp_all <;> subst h <;> simp

@[simp] theorem State.grantHeads_keeps (s : State) (k n : Nat) :
    (State.grantHeads k n s).pending = s.pending ∧ (State.grantHeads k n s).resetHeld = s.resetHeld ∧
    (State.grantHeads k n s).event = s.event ∧ (State.grantHeads k n s).hnd = s.hnd ∧
    (State.grantHeads k n s).cls = s.cls ∧ (State.grantHeads k n s).unit = s.unit ∧
    (State.grantHeads k n s).console = s.console ∧ (State.grantHeads k n s).tim = s.tim ∧
    (State.grantHeads k n s).supervision = s.supervision ∧ (State.grantHeads k n s).reg.notices = s.reg.notices ∧
    (State.grantHeads k n s).trainNotice = s.trainNotice ∧ (State.grantHeads k n s).reg.outcomes = s.reg.outcomes ∧
    (State.grantHeads k n s).reg.outcomeLoss = s.reg.outcomeLoss ∧
    (State.grantHeads k n s).pow.feeders = s.pow.feeders ∧ (State.grantHeads k n s).feeder = s.feeder ∧
    (State.grantHeads k n s).pow.demand0 = s.pow.demand0 ∧ (State.grantHeads k n s).pow.demand1 = s.pow.demand1 ∧
    (State.grantHeads k n s).pow.demand2 = s.pow.demand2 ∧ (State.grantHeads k n s).pow.demand3 = s.pow.demand3 ∧
    (State.grantHeads k n s).inc = s.inc ∧ (State.grantHeads k n s).kind = s.kind ∧
    (State.grantHeads k n s).incident = s.incident ∧ (State.grantHeads k n s).incNotice = s.incNotice ∧
    (State.grantHeads k n s).interlocked = s.interlocked ∧ (State.grantHeads k n s).fraction = s.fraction ∧
    (State.grantHeads k n s).platHeld = s.platHeld ∧ (State.grantHeads k n s).platHeadway = s.platHeadway ∧
    (State.grantHeads k n s).com = s.com ∧ (State.grantHeads k n s).station = s.station ∧
    (State.grantHeads k n s).template = s.template ∧ (State.grantHeads k n s).zone = s.zone ∧
    (State.grantHeads k n s).arming = s.arming ∧ (State.grantHeads k n s).consolePort = s.consolePort := by
  induction n generalizing s with
  | zero => simp [State.grantHeads]
  | succ n ih =>
    simp only [State.grantHeads]
    split
    · simp
    · rename_i s' h
      have := ih s'
      have := State.testHead_keeps h
      simp_all

@[simp] theorem State.reevaluate_keeps (s : State) (k : Nat) :
    (s.reevaluate k).pending = s.pending ∧ (s.reevaluate k).resetHeld = s.resetHeld ∧
    (s.reevaluate k).event = s.event ∧ (s.reevaluate k).hnd = s.hnd ∧ (s.reevaluate k).cls = s.cls ∧
    (s.reevaluate k).unit = s.unit ∧ (s.reevaluate k).console = s.console ∧ (s.reevaluate k).tim = s.tim ∧
    (s.reevaluate k).supervision = s.supervision ∧ (s.reevaluate k).reg.notices = s.reg.notices ∧
    (s.reevaluate k).trainNotice = s.trainNotice ∧ (s.reevaluate k).reg.outcomes = s.reg.outcomes ∧
    (s.reevaluate k).reg.outcomeLoss = s.reg.outcomeLoss ∧ (s.reevaluate k).pow.feeders = s.pow.feeders ∧
    (s.reevaluate k).feeder = s.feeder ∧ (s.reevaluate k).pow.demand0 = s.pow.demand0 ∧
    (s.reevaluate k).pow.demand1 = s.pow.demand1 ∧ (s.reevaluate k).pow.demand2 = s.pow.demand2 ∧
    (s.reevaluate k).pow.demand3 = s.pow.demand3 ∧ (s.reevaluate k).inc = s.inc ∧ (s.reevaluate k).kind = s.kind ∧
    (s.reevaluate k).incident = s.incident ∧ (s.reevaluate k).incNotice = s.incNotice ∧
    (s.reevaluate k).interlocked = s.interlocked ∧ (s.reevaluate k).fraction = s.fraction ∧
    (s.reevaluate k).platHeld = s.platHeld ∧ (s.reevaluate k).platHeadway = s.platHeadway ∧
    (s.reevaluate k).com = s.com ∧ (s.reevaluate k).station = s.station ∧ (s.reevaluate k).template = s.template ∧
    (s.reevaluate k).zone = s.zone ∧ (s.reevaluate k).arming = s.arming ∧
    (s.reevaluate k).consolePort = s.consolePort := by
  generalize ht : (s.reevaluate k) = t
  unfold State.reevaluate at ht
  try dsimp only at ht
  (repeat' split at ht) <;> subst ht <;> simp

@[simp] theorem State.endReservation_keeps (s : State) (t : Nat) :
    (s.endReservation t).pending = s.pending ∧ (s.endReservation t).resetHeld = s.resetHeld ∧
    (s.endReservation t).event = s.event ∧ (s.endReservation t).hnd = s.hnd ∧ (s.endReservation t).cls = s.cls ∧
    (s.endReservation t).unit = s.unit ∧ (s.endReservation t).console = s.console ∧
    (s.endReservation t).tim = s.tim ∧ (s.endReservation t).supervision = s.supervision ∧
    (s.endReservation t).reg.notices = s.reg.notices ∧ (s.endReservation t).trainNotice = s.trainNotice ∧
    (s.endReservation t).reg.outcomes = s.reg.outcomes ∧ (s.endReservation t).reg.outcomeLoss = s.reg.outcomeLoss ∧
    (s.endReservation t).pow.feeders = s.pow.feeders ∧ (s.endReservation t).feeder = s.feeder ∧
    (s.endReservation t).pow.demand0 = s.pow.demand0 ∧ (s.endReservation t).pow.demand1 = s.pow.demand1 ∧
    (s.endReservation t).pow.demand2 = s.pow.demand2 ∧ (s.endReservation t).pow.demand3 = s.pow.demand3 ∧
    (s.endReservation t).inc = s.inc ∧ (s.endReservation t).kind = s.kind ∧
    (s.endReservation t).incident = s.incident ∧ (s.endReservation t).incNotice = s.incNotice ∧
    (s.endReservation t).interlocked = s.interlocked ∧ (s.endReservation t).fraction = s.fraction ∧
    (s.endReservation t).platHeld = s.platHeld ∧ (s.endReservation t).platHeadway = s.platHeadway ∧
    (s.endReservation t).com = s.com ∧ (s.endReservation t).station = s.station ∧
    (s.endReservation t).template = s.template ∧ (s.endReservation t).zone = s.zone ∧
    (s.endReservation t).arming = s.arming ∧ (s.endReservation t).consolePort = s.consolePort := by
  generalize ht : (s.endReservation t) = t
  unfold State.endReservation at ht
  try dsimp only at ht
  (repeat' split at ht) <;> subst ht <;> simp

@[simp] theorem State.removeQueued_keeps (s : State) (t : Nat) :
    (s.removeQueued t).pending = s.pending ∧ (s.removeQueued t).resetHeld = s.resetHeld ∧
    (s.removeQueued t).event = s.event ∧ (s.removeQueued t).hnd = s.hnd ∧ (s.removeQueued t).cls = s.cls ∧
    (s.removeQueued t).unit = s.unit ∧ (s.removeQueued t).console = s.console ∧ (s.removeQueued t).tim = s.tim ∧
    (s.removeQueued t).supervision = s.supervision ∧ (s.removeQueued t).reg.notices = s.reg.notices ∧
    (s.removeQueued t).trainNotice = s.trainNotice ∧ (s.removeQueued t).reg.outcomes = s.reg.outcomes ∧
    (s.removeQueued t).reg.outcomeLoss = s.reg.outcomeLoss ∧ (s.removeQueued t).pow.feeders = s.pow.feeders ∧
    (s.removeQueued t).feeder = s.feeder ∧ (s.removeQueued t).pow.demand0 = s.pow.demand0 ∧
    (s.removeQueued t).pow.demand1 = s.pow.demand1 ∧ (s.removeQueued t).pow.demand2 = s.pow.demand2 ∧
    (s.removeQueued t).pow.demand3 = s.pow.demand3 ∧ (s.removeQueued t).inc = s.inc ∧
    (s.removeQueued t).kind = s.kind ∧ (s.removeQueued t).incident = s.incident ∧
    (s.removeQueued t).incNotice = s.incNotice ∧ (s.removeQueued t).interlocked = s.interlocked ∧
    (s.removeQueued t).fraction = s.fraction ∧ (s.removeQueued t).platHeld = s.platHeld ∧
    (s.removeQueued t).platHeadway = s.platHeadway ∧ (s.removeQueued t).com = s.com ∧
    (s.removeQueued t).station = s.station ∧ (s.removeQueued t).template = s.template ∧
    (s.removeQueued t).zone = s.zone ∧ (s.removeQueued t).arming = s.arming ∧
    (s.removeQueued t).consolePort = s.consolePort := by
  generalize ht : (s.removeQueued t) = t
  unfold State.removeQueued at ht
  try dsimp only at ht
  (repeat' split at ht) <;> subst ht <;> simp

@[simp] theorem State.leavePool_keeps (s : State) (t : Nat) :
    (s.leavePool t).pending = s.pending ∧ (s.leavePool t).resetHeld = s.resetHeld ∧
    (s.leavePool t).event = s.event ∧ (s.leavePool t).hnd = s.hnd ∧ (s.leavePool t).cls = s.cls ∧
    (s.leavePool t).unit = s.unit ∧ (s.leavePool t).console = s.console ∧ (s.leavePool t).tim = s.tim ∧
    (s.leavePool t).supervision = s.supervision ∧ (s.leavePool t).reg.notices = s.reg.notices ∧
    (s.leavePool t).trainNotice = s.trainNotice ∧ (s.leavePool t).reg.outcomes = s.reg.outcomes ∧
    (s.leavePool t).reg.outcomeLoss = s.reg.outcomeLoss ∧ (s.leavePool t).pow.feeders = s.pow.feeders ∧
    (s.leavePool t).feeder = s.feeder ∧ (s.leavePool t).pow.demand0 = s.pow.demand0 ∧
    (s.leavePool t).pow.demand1 = s.pow.demand1 ∧ (s.leavePool t).pow.demand2 = s.pow.demand2 ∧
    (s.leavePool t).pow.demand3 = s.pow.demand3 ∧ (s.leavePool t).inc = s.inc ∧ (s.leavePool t).kind = s.kind ∧
    (s.leavePool t).incident = s.incident ∧ (s.leavePool t).incNotice = s.incNotice ∧
    (s.leavePool t).interlocked = s.interlocked ∧ (s.leavePool t).fraction = s.fraction ∧
    (s.leavePool t).platHeld = s.platHeld ∧ (s.leavePool t).platHeadway = s.platHeadway ∧
    (s.leavePool t).com = s.com ∧ (s.leavePool t).station = s.station ∧ (s.leavePool t).template = s.template ∧
    (s.leavePool t).zone = s.zone ∧ (s.leavePool t).arming = s.arming ∧ (s.leavePool t).consolePort = s.consolePort := by
  generalize ht : (s.leavePool t) = t
  unfold State.leavePool at ht
  try dsimp only at ht
  (repeat' split at ht) <;> subst ht <;> simp

@[simp] theorem State.releaseAll_keeps (s : State) (k : Nat) :
    (s.releaseAll k).pending = s.pending ∧ (s.releaseAll k).resetHeld = s.resetHeld ∧
    (s.releaseAll k).event = s.event ∧ (s.releaseAll k).hnd = s.hnd ∧ (s.releaseAll k).cls = s.cls ∧
    (s.releaseAll k).unit = s.unit ∧ (s.releaseAll k).console = s.console ∧ (s.releaseAll k).tim = s.tim ∧
    (s.releaseAll k).supervision = s.supervision ∧ (s.releaseAll k).reg = s.reg ∧ (s.releaseAll k).slot = s.slot ∧
    (s.releaseAll k).trainNotice = s.trainNotice ∧ (s.releaseAll k).plat = s.plat ∧
    (s.releaseAll k).pow.feeders = s.pow.feeders ∧ (s.releaseAll k).feeder = s.feeder ∧
    (s.releaseAll k).pow.demand0 = s.pow.demand0 ∧ (s.releaseAll k).pow.demand1 = s.pow.demand1 ∧
    (s.releaseAll k).pow.demand2 = s.pow.demand2 ∧ (s.releaseAll k).pow.demand3 = s.pow.demand3 ∧
    (s.releaseAll k).inc = s.inc ∧ (s.releaseAll k).kind = s.kind ∧ (s.releaseAll k).incident = s.incident ∧
    (s.releaseAll k).incNotice = s.incNotice ∧ (s.releaseAll k).interlocked = s.interlocked ∧
    (s.releaseAll k).fraction = s.fraction ∧ (s.releaseAll k).platHeld = s.platHeld ∧
    (s.releaseAll k).platHeadway = s.platHeadway ∧ (s.releaseAll k).com = s.com ∧
    (s.releaseAll k).station = s.station ∧ (s.releaseAll k).template = s.template ∧
    (s.releaseAll k).zone = s.zone ∧ (s.releaseAll k).arming = s.arming ∧
    (s.releaseAll k).fieldPort = s.fieldPort ∧ (s.releaseAll k).consolePort = s.consolePort := by
  generalize ht : (s.releaseAll k) = t
  unfold State.releaseAll at ht
  try dsimp only at ht
  (repeat' split at ht) <;> subst ht <;> simp

@[simp] theorem State.enqueueStart_keeps (s : State) (t k d : Nat) (r : Option Nat) :
    (s.enqueueStart t k d r).pending = s.pending ∧ (s.enqueueStart t k d r).resetHeld = s.resetHeld ∧
    (s.enqueueStart t k d r).event = s.event ∧ (s.enqueueStart t k d r).hnd = s.hnd ∧
    (s.enqueueStart t k d r).cls = s.cls ∧ (s.enqueueStart t k d r).unit = s.unit ∧
    (s.enqueueStart t k d r).console = s.console ∧ (s.enqueueStart t k d r).tim = s.tim ∧
    (s.enqueueStart t k d r).supervision = s.supervision ∧ (s.enqueueStart t k d r).reg = s.reg ∧
    (s.enqueueStart t k d r).slot = s.slot ∧ (s.enqueueStart t k d r).trainNotice = s.trainNotice ∧
    (s.enqueueStart t k d r).plat = s.plat ∧ (s.enqueueStart t k d r).pow.feeders = s.pow.feeders ∧
    (s.enqueueStart t k d r).feeder = s.feeder ∧ (s.enqueueStart t k d r).pow.demand0 = s.pow.demand0 ∧
    (s.enqueueStart t k d r).pow.demand1 = s.pow.demand1 ∧ (s.enqueueStart t k d r).pow.demand2 = s.pow.demand2 ∧
    (s.enqueueStart t k d r).pow.demand3 = s.pow.demand3 ∧ (s.enqueueStart t k d r).inc = s.inc ∧
    (s.enqueueStart t k d r).kind = s.kind ∧ (s.enqueueStart t k d r).incident = s.incident ∧
    (s.enqueueStart t k d r).incNotice = s.incNotice ∧ (s.enqueueStart t k d r).interlocked = s.interlocked ∧
    (s.enqueueStart t k d r).fraction = s.fraction ∧ (s.enqueueStart t k d r).platHeld = s.platHeld ∧
    (s.enqueueStart t k d r).platHeadway = s.platHeadway ∧ (s.enqueueStart t k d r).com = s.com ∧
    (s.enqueueStart t k d r).station = s.station ∧ (s.enqueueStart t k d r).template = s.template ∧
    (s.enqueueStart t k d r).zone = s.zone ∧ (s.enqueueStart t k d r).arming = s.arming ∧
    (s.enqueueStart t k d r).fieldPort = s.fieldPort ∧ (s.enqueueStart t k d r).consolePort = s.consolePort := by
  generalize ht : (s.enqueueStart t k d r) = t
  unfold State.enqueueStart at ht
  try dsimp only at ht
  (repeat' split at ht) <;> subst ht <;> simp

@[simp] theorem State.placeStart_keeps (s : State) (t k d : Nat) (r : Option Nat) :
    (s.placeStart t k d r).1.pending = s.pending ∧ (s.placeStart t k d r).1.resetHeld = s.resetHeld ∧
    (s.placeStart t k d r).1.event = s.event ∧ (s.placeStart t k d r).1.hnd = s.hnd ∧
    (s.placeStart t k d r).1.cls = s.cls ∧ (s.placeStart t k d r).1.unit = s.unit ∧
    (s.placeStart t k d r).1.console = s.console ∧ (s.placeStart t k d r).1.tim = s.tim ∧
    (s.placeStart t k d r).1.supervision = s.supervision ∧ (s.placeStart t k d r).1.reg = s.reg ∧
    (s.placeStart t k d r).1.slot = s.slot ∧ (s.placeStart t k d r).1.trainNotice = s.trainNotice ∧
    (s.placeStart t k d r).1.plat = s.plat ∧ (s.placeStart t k d r).1.pow.feeders = s.pow.feeders ∧
    (s.placeStart t k d r).1.feeder = s.feeder ∧ (s.placeStart t k d r).1.pow.demand0 = s.pow.demand0 ∧
    (s.placeStart t k d r).1.pow.demand1 = s.pow.demand1 ∧ (s.placeStart t k d r).1.pow.demand2 = s.pow.demand2 ∧
    (s.placeStart t k d r).1.pow.demand3 = s.pow.demand3 ∧ (s.placeStart t k d r).1.inc = s.inc ∧
    (s.placeStart t k d r).1.kind = s.kind ∧ (s.placeStart t k d r).1.incident = s.incident ∧
    (s.placeStart t k d r).1.incNotice = s.incNotice ∧ (s.placeStart t k d r).1.interlocked = s.interlocked ∧
    (s.placeStart t k d r).1.fraction = s.fraction ∧ (s.placeStart t k d r).1.platHeld = s.platHeld ∧
    (s.placeStart t k d r).1.platHeadway = s.platHeadway ∧ (s.placeStart t k d r).1.com = s.com ∧
    (s.placeStart t k d r).1.station = s.station ∧ (s.placeStart t k d r).1.template = s.template ∧
    (s.placeStart t k d r).1.zone = s.zone ∧ (s.placeStart t k d r).1.arming = s.arming ∧
    (s.placeStart t k d r).1.fieldPort = s.fieldPort ∧ (s.placeStart t k d r).1.consolePort = s.consolePort := by
  generalize ht : (s.placeStart t k d r).1 = t
  unfold State.placeStart at ht
  try dsimp only at ht
  (repeat' split at ht) <;> subst ht <;> simp

@[simp] theorem State.requestStart_keeps (s : State) (t k d : Nat) (r : Option Nat) :
    (s.requestStart t k d r).1.pending = s.pending ∧ (s.requestStart t k d r).1.resetHeld = s.resetHeld ∧
    (s.requestStart t k d r).1.event = s.event ∧ (s.requestStart t k d r).1.hnd = s.hnd ∧
    (s.requestStart t k d r).1.cls = s.cls ∧ (s.requestStart t k d r).1.unit = s.unit ∧
    (s.requestStart t k d r).1.console = s.console ∧ (s.requestStart t k d r).1.tim = s.tim ∧
    (s.requestStart t k d r).1.supervision = s.supervision ∧
    (s.requestStart t k d r).1.reg.notices = s.reg.notices ∧
    (s.requestStart t k d r).1.trainNotice = s.trainNotice ∧
    (s.requestStart t k d r).1.reg.outcomes = s.reg.outcomes ∧
    (s.requestStart t k d r).1.reg.outcomeLoss = s.reg.outcomeLoss ∧
    (s.requestStart t k d r).1.pow.feeders = s.pow.feeders ∧ (s.requestStart t k d r).1.feeder = s.feeder ∧
    (s.requestStart t k d r).1.pow.demand0 = s.pow.demand0 ∧
    (s.requestStart t k d r).1.pow.demand1 = s.pow.demand1 ∧
    (s.requestStart t k d r).1.pow.demand2 = s.pow.demand2 ∧
    (s.requestStart t k d r).1.pow.demand3 = s.pow.demand3 ∧ (s.requestStart t k d r).1.inc = s.inc ∧
    (s.requestStart t k d r).1.kind = s.kind ∧ (s.requestStart t k d r).1.incident = s.incident ∧
    (s.requestStart t k d r).1.incNotice = s.incNotice ∧ (s.requestStart t k d r).1.interlocked = s.interlocked ∧
    (s.requestStart t k d r).1.fraction = s.fraction ∧ (s.requestStart t k d r).1.platHeld = s.platHeld ∧
    (s.requestStart t k d r).1.platHeadway = s.platHeadway ∧ (s.requestStart t k d r).1.com = s.com ∧
    (s.requestStart t k d r).1.station = s.station ∧ (s.requestStart t k d r).1.template = s.template ∧
    (s.requestStart t k d r).1.zone = s.zone ∧ (s.requestStart t k d r).1.arming = s.arming ∧
    (s.requestStart t k d r).1.consolePort = s.consolePort := by
  generalize ht : (s.requestStart t k d r).1 = t
  unfold State.requestStart at ht
  try dsimp only at ht
  (repeat' split at ht) <;> subst ht <;> simp

@[simp] theorem State.startAtPlatform_keeps (s : State) (t p r : Nat) :
    (s.startAtPlatform t p r).pending = s.pending ∧ (s.startAtPlatform t p r).resetHeld = s.resetHeld ∧
    (s.startAtPlatform t p r).event = s.event ∧ (s.startAtPlatform t p r).hnd = s.hnd ∧
    (s.startAtPlatform t p r).cls = s.cls ∧ (s.startAtPlatform t p r).unit = s.unit ∧
    (s.startAtPlatform t p r).console = s.console ∧ (s.startAtPlatform t p r).tim = s.tim ∧
    (s.startAtPlatform t p r).supervision = s.supervision ∧ (s.startAtPlatform t p r).reg.notices = s.reg.notices ∧
    (s.startAtPlatform t p r).trainNotice = s.trainNotice ∧
    (s.startAtPlatform t p r).reg.outcomes = s.reg.outcomes ∧
    (s.startAtPlatform t p r).reg.outcomeLoss = s.reg.outcomeLoss ∧
    (s.startAtPlatform t p r).pow.feeders = s.pow.feeders ∧ (s.startAtPlatform t p r).feeder = s.feeder ∧
    (s.startAtPlatform t p r).pow.demand0 = s.pow.demand0 ∧ (s.startAtPlatform t p r).pow.demand1 = s.pow.demand1 ∧
    (s.startAtPlatform t p r).pow.demand2 = s.pow.demand2 ∧ (s.startAtPlatform t p r).pow.demand3 = s.pow.demand3 ∧
    (s.startAtPlatform t p r).inc = s.inc ∧ (s.startAtPlatform t p r).kind = s.kind ∧
    (s.startAtPlatform t p r).incident = s.incident ∧ (s.startAtPlatform t p r).incNotice = s.incNotice ∧
    (s.startAtPlatform t p r).interlocked = s.interlocked ∧ (s.startAtPlatform t p r).fraction = s.fraction ∧
    (s.startAtPlatform t p r).platHeld = s.platHeld ∧ (s.startAtPlatform t p r).platHeadway = s.platHeadway ∧
    (s.startAtPlatform t p r).com = s.com ∧ (s.startAtPlatform t p r).station = s.station ∧
    (s.startAtPlatform t p r).template = s.template ∧ (s.startAtPlatform t p r).zone = s.zone ∧
    (s.startAtPlatform t p r).arming = s.arming ∧ (s.startAtPlatform t p r).consolePort = s.consolePort := by
  generalize ht : (s.startAtPlatform t p r) = t'
  unfold State.startAtPlatform at ht
  try dsimp only at ht
  split at ht <;> rename_i heq <;> have h1 := congrArg Prod.fst heq <;> simp only at h1 <;> subst h1 <;> subst ht <;> simp

@[simp] theorem State.startBetween_keeps (s : State) (t k : Nat) :
    (s.startBetween t k).pending = s.pending ∧ (s.startBetween t k).resetHeld = s.resetHeld ∧
    (s.startBetween t k).event = s.event ∧ (s.startBetween t k).hnd = s.hnd ∧ (s.startBetween t k).cls = s.cls ∧
    (s.startBetween t k).unit = s.unit ∧ (s.startBetween t k).console = s.console ∧
    (s.startBetween t k).tim = s.tim ∧ (s.startBetween t k).supervision = s.supervision ∧
    (s.startBetween t k).reg.notices = s.reg.notices ∧ (s.startBetween t k).trainNotice = s.trainNotice ∧
    (s.startBetween t k).reg.outcomes = s.reg.outcomes ∧ (s.startBetween t k).reg.outcomeLoss = s.reg.outcomeLoss ∧
    (s.startBetween t k).pow.feeders = s.pow.feeders ∧ (s.startBetween t k).feeder = s.feeder ∧
    (s.startBetween t k).pow.demand0 = s.pow.demand0 ∧ (s.startBetween t k).pow.demand1 = s.pow.demand1 ∧
    (s.startBetween t k).pow.demand2 = s.pow.demand2 ∧ (s.startBetween t k).pow.demand3 = s.pow.demand3 ∧
    (s.startBetween t k).inc = s.inc ∧ (s.startBetween t k).kind = s.kind ∧
    (s.startBetween t k).incident = s.incident ∧ (s.startBetween t k).incNotice = s.incNotice ∧
    (s.startBetween t k).interlocked = s.interlocked ∧ (s.startBetween t k).fraction = s.fraction ∧
    (s.startBetween t k).platHeld = s.platHeld ∧ (s.startBetween t k).platHeadway = s.platHeadway ∧
    (s.startBetween t k).com = s.com ∧ (s.startBetween t k).station = s.station ∧
    (s.startBetween t k).template = s.template ∧ (s.startBetween t k).zone = s.zone ∧
    (s.startBetween t k).arming = s.arming ∧ (s.startBetween t k).consolePort = s.consolePort := by
  generalize ht : (s.startBetween t k) = t'
  unfold State.startBetween at ht
  try dsimp only at ht
  split at ht <;> rename_i heq <;> have h1 := congrArg Prod.fst heq <;> simp only at h1 <;> subst h1 <;> subst ht <;> simp

@[simp] theorem State.flagIncidentHeld_keeps (s : State) (t : Nat) :
    (s.flagIncidentHeld t).pending = s.pending ∧ (s.flagIncidentHeld t).resetHeld = s.resetHeld ∧
    (s.flagIncidentHeld t).event = s.event ∧ (s.flagIncidentHeld t).hnd = s.hnd ∧
    (s.flagIncidentHeld t).cls = s.cls ∧ (s.flagIncidentHeld t).unit = s.unit ∧
    (s.flagIncidentHeld t).console = s.console ∧ (s.flagIncidentHeld t).tim = s.tim ∧
    (s.flagIncidentHeld t).supervision = s.supervision ∧ (s.flagIncidentHeld t).reg.notices = s.reg.notices ∧
    (s.flagIncidentHeld t).trainNotice = s.trainNotice ∧ (s.flagIncidentHeld t).reg.outcomes = s.reg.outcomes ∧
    (s.flagIncidentHeld t).reg.outcomeLoss = s.reg.outcomeLoss ∧ (s.flagIncidentHeld t).pow = s.pow ∧
    (s.flagIncidentHeld t).feeder = s.feeder ∧ (s.flagIncidentHeld t).sect = s.sect ∧
    (s.flagIncidentHeld t).pool = s.pool ∧ (s.flagIncidentHeld t).inc = s.inc ∧
    (s.flagIncidentHeld t).kind = s.kind ∧ (s.flagIncidentHeld t).incident = s.incident ∧
    (s.flagIncidentHeld t).incNotice = s.incNotice ∧ (s.flagIncidentHeld t).interlocked = s.interlocked ∧
    (s.flagIncidentHeld t).fraction = s.fraction ∧ (s.flagIncidentHeld t).platHeld = s.platHeld ∧
    (s.flagIncidentHeld t).platHeadway = s.platHeadway ∧ (s.flagIncidentHeld t).com = s.com ∧
    (s.flagIncidentHeld t).station = s.station ∧ (s.flagIncidentHeld t).template = s.template ∧
    (s.flagIncidentHeld t).zone = s.zone ∧ (s.flagIncidentHeld t).arming = s.arming ∧
    (s.flagIncidentHeld t).fieldPort = s.fieldPort ∧ (s.flagIncidentHeld t).consolePort = s.consolePort := by
  generalize ht : (s.flagIncidentHeld t) = t
  unfold State.flagIncidentHeld at ht
  try dsimp only at ht
  (repeat' split at ht) <;> subst ht <;> simp

@[simp] theorem State.takeRelease_keeps (s : State) (t p r : Nat) :
    (s.takeRelease t p r).pending = s.pending ∧ (s.takeRelease t p r).resetHeld = s.resetHeld ∧
    (s.takeRelease t p r).event = s.event ∧ (s.takeRelease t p r).hnd = s.hnd ∧ (s.takeRelease t p r).cls = s.cls ∧
    (s.takeRelease t p r).unit = s.unit ∧ (s.takeRelease t p r).console = s.console ∧
    (s.takeRelease t p r).tim = s.tim ∧ (s.takeRelease t p r).supervision = s.supervision ∧
    (s.takeRelease t p r).reg.notices = s.reg.notices ∧ (s.takeRelease t p r).trainNotice = s.trainNotice ∧
    (s.takeRelease t p r).reg.outcomes = s.reg.outcomes ∧
    (s.takeRelease t p r).reg.outcomeLoss = s.reg.outcomeLoss ∧ (s.takeRelease t p r).pow.feeders = s.pow.feeders ∧
    (s.takeRelease t p r).feeder = s.feeder ∧ (s.takeRelease t p r).pow.demand0 = s.pow.demand0 ∧
    (s.takeRelease t p r).pow.demand1 = s.pow.demand1 ∧ (s.takeRelease t p r).pow.demand2 = s.pow.demand2 ∧
    (s.takeRelease t p r).pow.demand3 = s.pow.demand3 ∧ (s.takeRelease t p r).inc = s.inc ∧
    (s.takeRelease t p r).kind = s.kind ∧ (s.takeRelease t p r).incident = s.incident ∧
    (s.takeRelease t p r).incNotice = s.incNotice ∧ (s.takeRelease t p r).interlocked = s.interlocked ∧
    (s.takeRelease t p r).fraction = s.fraction ∧ (s.takeRelease t p r).platHeld = s.platHeld ∧
    (s.takeRelease t p r).platHeadway = s.platHeadway ∧ (s.takeRelease t p r).com = s.com ∧
    (s.takeRelease t p r).station = s.station ∧ (s.takeRelease t p r).template = s.template ∧
    (s.takeRelease t p r).zone = s.zone ∧ (s.takeRelease t p r).arming = s.arming ∧
    (s.takeRelease t p r).consolePort = s.consolePort := by
  generalize ht : (s.takeRelease t p r) = t
  unfold State.takeRelease at ht
  try dsimp only at ht
  (repeat' split at ht) <;> subst ht <;> simp

/-! ## Sections -/

@[simp] theorem State.remeasure_keeps (s : State) (k : Nat) :
    (s.remeasure k).pending = s.pending ∧ (s.remeasure k).resetHeld = s.resetHeld ∧
    (s.remeasure k).event = s.event ∧ (s.remeasure k).hnd = s.hnd ∧ (s.remeasure k).cls = s.cls ∧
    (s.remeasure k).unit = s.unit ∧ (s.remeasure k).console = s.console ∧ (s.remeasure k).tim = s.tim ∧
    (s.remeasure k).supervision = s.supervision ∧ (s.remeasure k).reg = s.reg ∧ (s.remeasure k).slot = s.slot ∧
    (s.remeasure k).trainNotice = s.trainNotice ∧ (s.remeasure k).plat = s.plat ∧
    (s.remeasure k).pow.feeders = s.pow.feeders ∧ (s.remeasure k).feeder = s.feeder ∧
    (s.remeasure k).pow.pool = s.pow.pool ∧ (s.remeasure k).pool = s.pool ∧
    (s.remeasure k).pow.demand0 = s.pow.demand0 ∧ (s.remeasure k).pow.demand1 = s.pow.demand1 ∧
    (s.remeasure k).pow.demand2 = s.pow.demand2 ∧ (s.remeasure k).pow.demand3 = s.pow.demand3 ∧
    (s.remeasure k).inc = s.inc ∧ (s.remeasure k).kind = s.kind ∧ (s.remeasure k).incident = s.incident ∧
    (s.remeasure k).incNotice = s.incNotice ∧ (s.remeasure k).interlocked = s.interlocked ∧
    (s.remeasure k).fraction = s.fraction ∧ (s.remeasure k).platHeld = s.platHeld ∧
    (s.remeasure k).platHeadway = s.platHeadway ∧ (s.remeasure k).com = s.com ∧
    (s.remeasure k).station = s.station ∧ (s.remeasure k).template = s.template ∧ (s.remeasure k).zone = s.zone ∧
    (s.remeasure k).arming = s.arming ∧ (s.remeasure k).fieldPort = s.fieldPort ∧
    (s.remeasure k).consolePort = s.consolePort := by
  generalize ht : (s.remeasure k) = t
  unfold State.remeasure at ht
  try dsimp only at ht
  (repeat' split at ht) <;> subst ht <;> simp

@[simp] theorem State.markTraction_keeps (s : State) (k : Nat) (b : Bool) :
    (s.markTraction k b).pending = s.pending ∧ (s.markTraction k b).resetHeld = s.resetHeld ∧
    (s.markTraction k b).event = s.event ∧ (s.markTraction k b).hnd = s.hnd ∧ (s.markTraction k b).cls = s.cls ∧
    (s.markTraction k b).unit = s.unit ∧ (s.markTraction k b).console = s.console ∧
    (s.markTraction k b).tim = s.tim ∧ (s.markTraction k b).supervision = s.supervision ∧
    (s.markTraction k b).reg.notices = s.reg.notices ∧ (s.markTraction k b).trainNotice = s.trainNotice ∧
    (s.markTraction k b).reg.platforms = s.reg.platforms ∧ (s.markTraction k b).plat = s.plat ∧
    (s.markTraction k b).reg.outcomes = s.reg.outcomes ∧ (s.markTraction k b).reg.outcomeLoss = s.reg.outcomeLoss ∧
    (s.markTraction k b).pow = s.pow ∧ (s.markTraction k b).feeder = s.feeder ∧
    (s.markTraction k b).sect = s.sect ∧ (s.markTraction k b).pool = s.pool ∧ (s.markTraction k b).inc = s.inc ∧
    (s.markTraction k b).kind = s.kind ∧ (s.markTraction k b).incident = s.incident ∧
    (s.markTraction k b).incNotice = s.incNotice ∧ (s.markTraction k b).interlocked = s.interlocked ∧
    (s.markTraction k b).fraction = s.fraction ∧ (s.markTraction k b).platHeld = s.platHeld ∧
    (s.markTraction k b).platHeadway = s.platHeadway ∧ (s.markTraction k b).com = s.com ∧
    (s.markTraction k b).station = s.station ∧ (s.markTraction k b).template = s.template ∧
    (s.markTraction k b).zone = s.zone ∧ (s.markTraction k b).arming = s.arming ∧
    (s.markTraction k b).fieldPort = s.fieldPort ∧ (s.markTraction k b).consolePort = s.consolePort := by
  generalize ht : (s.markTraction k b) = t
  unfold State.markTraction at ht
  try dsimp only at ht
  (repeat' split at ht) <;> subst ht <;> simp

@[simp] theorem State.discardOrders_keeps (s : State) (k : Nat) (f : OrderKind → Bool) :
    (s.discardOrders k f).pending = s.pending ∧ (s.discardOrders k f).resetHeld = s.resetHeld ∧
    (s.discardOrders k f).event = s.event ∧ (s.discardOrders k f).hnd = s.hnd ∧ (s.discardOrders k f).cls = s.cls ∧
    (s.discardOrders k f).unit = s.unit ∧ (s.discardOrders k f).console = s.console ∧
    (s.discardOrders k f).tim = s.tim ∧ (s.discardOrders k f).supervision = s.supervision ∧
    (s.discardOrders k f).reg = s.reg ∧ (s.discardOrders k f).slot = s.slot ∧
    (s.discardOrders k f).trainNotice = s.trainNotice ∧ (s.discardOrders k f).plat = s.plat ∧
    (s.discardOrders k f).pow.sections = s.pow.sections ∧ (s.discardOrders k f).sect = s.sect ∧
    (s.discardOrders k f).pow.pool = s.pow.pool ∧ (s.discardOrders k f).pool = s.pool ∧
    (s.discardOrders k f).pow.demand0 = s.pow.demand0 ∧ (s.discardOrders k f).pow.demand1 = s.pow.demand1 ∧
    (s.discardOrders k f).pow.demand2 = s.pow.demand2 ∧ (s.discardOrders k f).pow.demand3 = s.pow.demand3 ∧
    (s.discardOrders k f).inc = s.inc ∧ (s.discardOrders k f).kind = s.kind ∧
    (s.discardOrders k f).incident = s.incident ∧ (s.discardOrders k f).incNotice = s.incNotice ∧
    (s.discardOrders k f).interlocked = s.interlocked ∧ (s.discardOrders k f).fraction = s.fraction ∧
    (s.discardOrders k f).platHeld = s.platHeld ∧ (s.discardOrders k f).platHeadway = s.platHeadway ∧
    (s.discardOrders k f).com = s.com ∧ (s.discardOrders k f).station = s.station ∧
    (s.discardOrders k f).template = s.template ∧ (s.discardOrders k f).zone = s.zone ∧
    (s.discardOrders k f).arming = s.arming ∧ (s.discardOrders k f).fieldPort = s.fieldPort ∧
    (s.discardOrders k f).consolePort = s.consolePort := by
  generalize ht : (s.discardOrders k f) = t
  unfold State.discardOrders at ht
  try dsimp only at ht
  (repeat' split at ht) <;> subst ht <;> simp

@[simp] theorem State.traction_keeps (s : State) (k : Nat) (a b : SectState) :
    (s.traction k a b).pending = s.pending ∧ (s.traction k a b).resetHeld = s.resetHeld ∧
    (s.traction k a b).event = s.event ∧ (s.traction k a b).hnd = s.hnd ∧ (s.traction k a b).cls = s.cls ∧
    (s.traction k a b).unit = s.unit ∧ (s.traction k a b).console = s.console ∧ (s.traction k a b).tim = s.tim ∧
    (s.traction k a b).supervision = s.supervision ∧ (s.traction k a b).reg.notices = s.reg.notices ∧
    (s.traction k a b).trainNotice = s.trainNotice ∧ (s.traction k a b).reg.platforms = s.reg.platforms ∧
    (s.traction k a b).plat = s.plat ∧ (s.traction k a b).reg.outcomes = s.reg.outcomes ∧
    (s.traction k a b).reg.outcomeLoss = s.reg.outcomeLoss ∧ (s.traction k a b).pow.feeders = s.pow.feeders ∧
    (s.traction k a b).feeder = s.feeder ∧ (s.traction k a b).pow.demand0 = s.pow.demand0 ∧
    (s.traction k a b).pow.demand1 = s.pow.demand1 ∧ (s.traction k a b).pow.demand2 = s.pow.demand2 ∧
    (s.traction k a b).pow.demand3 = s.pow.demand3 ∧ (s.traction k a b).inc = s.inc ∧
    (s.traction k a b).kind = s.kind ∧ (s.traction k a b).incident = s.incident ∧
    (s.traction k a b).incNotice = s.incNotice ∧ (s.traction k a b).interlocked = s.interlocked ∧
    (s.traction k a b).fraction = s.fraction ∧ (s.traction k a b).platHeld = s.platHeld ∧
    (s.traction k a b).platHeadway = s.platHeadway ∧ (s.traction k a b).com = s.com ∧
    (s.traction k a b).station = s.station ∧ (s.traction k a b).template = s.template ∧
    (s.traction k a b).zone = s.zone ∧ (s.traction k a b).arming = s.arming ∧
    (s.traction k a b).fieldPort = s.fieldPort ∧ (s.traction k a b).consolePort = s.consolePort := by
  generalize ht : (s.traction k a b) = t
  unfold State.traction at ht
  try dsimp only at ht
  (repeat' split at ht) <;> subst ht <;> simp

@[simp] theorem State.setSectState_keeps (s : State) (k : Nat) (a : SectState) (c : SectCause) :
    (s.setSectState k a c).pending = s.pending ∧ (s.setSectState k a c).resetHeld = s.resetHeld ∧
    (s.setSectState k a c).event = s.event ∧ (s.setSectState k a c).hnd = s.hnd ∧
    (s.setSectState k a c).cls = s.cls ∧ (s.setSectState k a c).unit = s.unit ∧
    (s.setSectState k a c).console = s.console ∧ (s.setSectState k a c).tim = s.tim ∧
    (s.setSectState k a c).supervision = s.supervision ∧ (s.setSectState k a c).reg.notices = s.reg.notices ∧
    (s.setSectState k a c).trainNotice = s.trainNotice ∧ (s.setSectState k a c).reg.platforms = s.reg.platforms ∧
    (s.setSectState k a c).plat = s.plat ∧ (s.setSectState k a c).reg.outcomes = s.reg.outcomes ∧
    (s.setSectState k a c).reg.outcomeLoss = s.reg.outcomeLoss ∧
    (s.setSectState k a c).pow.demand0 = s.pow.demand0 ∧ (s.setSectState k a c).pow.demand1 = s.pow.demand1 ∧
    (s.setSectState k a c).pow.demand2 = s.pow.demand2 ∧ (s.setSectState k a c).pow.demand3 = s.pow.demand3 ∧
    (s.setSectState k a c).inc = s.inc ∧ (s.setSectState k a c).kind = s.kind ∧
    (s.setSectState k a c).incident = s.incident ∧ (s.setSectState k a c).incNotice = s.incNotice ∧
    (s.setSectState k a c).interlocked = s.interlocked ∧ (s.setSectState k a c).fraction = s.fraction ∧
    (s.setSectState k a c).platHeld = s.platHeld ∧ (s.setSectState k a c).platHeadway = s.platHeadway ∧
    (s.setSectState k a c).com = s.com ∧ (s.setSectState k a c).station = s.station ∧
    (s.setSectState k a c).template = s.template ∧ (s.setSectState k a c).zone = s.zone ∧
    (s.setSectState k a c).arming = s.arming ∧ (s.setSectState k a c).fieldPort = s.fieldPort := by
  generalize ht : (s.setSectState k a c) = t
  unfold State.setSectState at ht
  try dsimp only at ht
  (repeat' split at ht) <;> subst ht <;> simp

@[simp] theorem State.orderAll_keeps (s : State) (k : Nat) (o : OrderKind) (b : Option Breaker) :
    (s.orderAll k o b).pending = s.pending ∧ (s.orderAll k o b).resetHeld = s.resetHeld ∧
    (s.orderAll k o b).event = s.event ∧ (s.orderAll k o b).hnd = s.hnd ∧ (s.orderAll k o b).cls = s.cls ∧
    (s.orderAll k o b).unit = s.unit ∧ (s.orderAll k o b).console = s.console ∧ (s.orderAll k o b).tim = s.tim ∧
    (s.orderAll k o b).supervision = s.supervision ∧ (s.orderAll k o b).reg = s.reg ∧
    (s.orderAll k o b).slot = s.slot ∧ (s.orderAll k o b).trainNotice = s.trainNotice ∧
    (s.orderAll k o b).plat = s.plat ∧ (s.orderAll k o b).pow.sections = s.pow.sections ∧
    (s.orderAll k o b).sect = s.sect ∧ (s.orderAll k o b).pow.pool = s.pow.pool ∧
    (s.orderAll k o b).pool = s.pool ∧ (s.orderAll k o b).pow.demand0 = s.pow.demand0 ∧
    (s.orderAll k o b).pow.demand1 = s.pow.demand1 ∧ (s.orderAll k o b).pow.demand2 = s.pow.demand2 ∧
    (s.orderAll k o b).pow.demand3 = s.pow.demand3 ∧ (s.orderAll k o b).inc = s.inc ∧
    (s.orderAll k o b).kind = s.kind ∧ (s.orderAll k o b).incident = s.incident ∧
    (s.orderAll k o b).incNotice = s.incNotice ∧ (s.orderAll k o b).interlocked = s.interlocked ∧
    (s.orderAll k o b).fraction = s.fraction ∧ (s.orderAll k o b).platHeld = s.platHeld ∧
    (s.orderAll k o b).platHeadway = s.platHeadway ∧ (s.orderAll k o b).com = s.com ∧
    (s.orderAll k o b).station = s.station ∧ (s.orderAll k o b).template = s.template ∧
    (s.orderAll k o b).zone = s.zone ∧ (s.orderAll k o b).arming = s.arming ∧
    (s.orderAll k o b).consolePort = s.consolePort := by
  generalize ht : (s.orderAll k o b) = t
  unfold State.orderAll at ht
  try dsimp only at ht
  (repeat' split at ht) <;> subst ht <;> simp

@[simp] theorem State.restartIsolation_keeps (s : State) (k : Nat) :
    (s.restartIsolation k).pending = s.pending ∧ (s.restartIsolation k).resetHeld = s.resetHeld ∧
    (s.restartIsolation k).event = s.event ∧ (s.restartIsolation k).hnd = s.hnd ∧
    (s.restartIsolation k).cls = s.cls ∧ (s.restartIsolation k).unit = s.unit ∧
    (s.restartIsolation k).console = s.console ∧ (s.restartIsolation k).tim = s.tim ∧
    (s.restartIsolation k).supervision = s.supervision ∧ (s.restartIsolation k).reg = s.reg ∧
    (s.restartIsolation k).slot = s.slot ∧ (s.restartIsolation k).trainNotice = s.trainNotice ∧
    (s.restartIsolation k).plat = s.plat ∧ (s.restartIsolation k).pow.pool = s.pow.pool ∧
    (s.restartIsolation k).pool = s.pool ∧ (s.restartIsolation k).pow.demand0 = s.pow.demand0 ∧
    (s.restartIsolation k).pow.demand1 = s.pow.demand1 ∧ (s.restartIsolation k).pow.demand2 = s.pow.demand2 ∧
    (s.restartIsolation k).pow.demand3 = s.pow.demand3 ∧ (s.restartIsolation k).inc = s.inc ∧
    (s.restartIsolation k).kind = s.kind ∧ (s.restartIsolation k).incident = s.incident ∧
    (s.restartIsolation k).incNotice = s.incNotice ∧ (s.restartIsolation k).interlocked = s.interlocked ∧
    (s.restartIsolation k).fraction = s.fraction ∧ (s.restartIsolation k).platHeld = s.platHeld ∧
    (s.restartIsolation k).platHeadway = s.platHeadway ∧ (s.restartIsolation k).com = s.com ∧
    (s.restartIsolation k).station = s.station ∧ (s.restartIsolation k).template = s.template ∧
    (s.restartIsolation k).zone = s.zone ∧ (s.restartIsolation k).arming = s.arming ∧
    (s.restartIsolation k).consolePort = s.consolePort := by
  generalize ht : (s.restartIsolation k) = t
  unfold State.restartIsolation at ht
  try dsimp only at ht
  (repeat' split at ht) <;> subst ht <;> simp

@[simp] theorem State.isolating_keeps (s : State) (k : Nat) (c : SectCause) :
    (s.isolating k c).pending = s.pending ∧ (s.isolating k c).resetHeld = s.resetHeld ∧
    (s.isolating k c).event = s.event ∧ (s.isolating k c).hnd = s.hnd ∧ (s.isolating k c).cls = s.cls ∧
    (s.isolating k c).unit = s.unit ∧ (s.isolating k c).console = s.console ∧ (s.isolating k c).tim = s.tim ∧
    (s.isolating k c).supervision = s.supervision ∧ (s.isolating k c).reg.notices = s.reg.notices ∧
    (s.isolating k c).trainNotice = s.trainNotice ∧ (s.isolating k c).reg.platforms = s.reg.platforms ∧
    (s.isolating k c).plat = s.plat ∧ (s.isolating k c).reg.outcomes = s.reg.outcomes ∧
    (s.isolating k c).reg.outcomeLoss = s.reg.outcomeLoss ∧ (s.isolating k c).pow.demand0 = s.pow.demand0 ∧
    (s.isolating k c).pow.demand1 = s.pow.demand1 ∧ (s.isolating k c).pow.demand2 = s.pow.demand2 ∧
    (s.isolating k c).pow.demand3 = s.pow.demand3 ∧ (s.isolating k c).inc = s.inc ∧ (s.isolating k c).kind = s.kind ∧
    (s.isolating k c).incident = s.incident ∧ (s.isolating k c).incNotice = s.incNotice ∧
    (s.isolating k c).interlocked = s.interlocked ∧ (s.isolating k c).fraction = s.fraction ∧
    (s.isolating k c).platHeld = s.platHeld ∧ (s.isolating k c).platHeadway = s.platHeadway ∧
    (s.isolating k c).com = s.com ∧ (s.isolating k c).station = s.station ∧ (s.isolating k c).template = s.template ∧
    (s.isolating k c).zone = s.zone ∧ (s.isolating k c).arming = s.arming := by
  generalize ht : (s.isolating k c) = t
  unfold State.isolating at ht
  try dsimp only at ht
  (repeat' split at ht) <;> subst ht <;> simp

@[simp] theorem State.isolationRequest_keeps (s : State) (k : Nat) (c : SectCause) :
    (s.isolationRequest k c).pending = s.pending ∧ (s.isolationRequest k c).resetHeld = s.resetHeld ∧
    (s.isolationRequest k c).event = s.event ∧ (s.isolationRequest k c).hnd = s.hnd ∧
    (s.isolationRequest k c).cls = s.cls ∧ (s.isolationRequest k c).unit = s.unit ∧
    (s.isolationRequest k c).console = s.console ∧ (s.isolationRequest k c).tim = s.tim ∧
    (s.isolationRequest k c).supervision = s.supervision ∧ (s.isolationRequest k c).reg.notices = s.reg.notices ∧
    (s.isolationRequest k c).trainNotice = s.trainNotice ∧
    (s.isolationRequest k c).reg.platforms = s.reg.platforms ∧ (s.isolationRequest k c).plat = s.plat ∧
    (s.isolationRequest k c).reg.outcomes = s.reg.outcomes ∧
    (s.isolationRequest k c).reg.outcomeLoss = s.reg.outcomeLoss ∧
    (s.isolationRequest k c).pow.demand0 = s.pow.demand0 ∧ (s.isolationRequest k c).pow.demand1 = s.pow.demand1 ∧
    (s.isolationRequest k c).pow.demand2 = s.pow.demand2 ∧ (s.isolationRequest k c).pow.demand3 = s.pow.demand3 ∧
    (s.isolationRequest k c).inc = s.inc ∧ (s.isolationRequest k c).kind = s.kind ∧
    (s.isolationRequest k c).incident = s.incident ∧ (s.isolationRequest k c).incNotice = s.incNotice ∧
    (s.isolationRequest k c).interlocked = s.interlocked ∧ (s.isolationRequest k c).fraction = s.fraction ∧
    (s.isolationRequest k c).platHeld = s.platHeld ∧ (s.isolationRequest k c).platHeadway = s.platHeadway ∧
    (s.isolationRequest k c).com = s.com ∧ (s.isolationRequest k c).station = s.station ∧
    (s.isolationRequest k c).template = s.template ∧ (s.isolationRequest k c).zone = s.zone ∧
    (s.isolationRequest k c).arming = s.arming := by
  generalize ht : (s.isolationRequest k c) = t
  unfold State.isolationRequest at ht
  try dsimp only at ht
  (repeat' split at ht) <;> subst ht <;> simp

@[simp] theorem State.energising_keeps (s : State) (k : Nat) :
    (s.energising k).pending = s.pending ∧ (s.energising k).resetHeld = s.resetHeld ∧
    (s.energising k).event = s.event ∧ (s.energising k).hnd = s.hnd ∧ (s.energising k).cls = s.cls ∧
    (s.energising k).unit = s.unit ∧ (s.energising k).console = s.console ∧ (s.energising k).tim = s.tim ∧
    (s.energising k).supervision = s.supervision ∧ (s.energising k).reg.notices = s.reg.notices ∧
    (s.energising k).trainNotice = s.trainNotice ∧ (s.energising k).reg.platforms = s.reg.platforms ∧
    (s.energising k).plat = s.plat ∧ (s.energising k).reg.outcomes = s.reg.outcomes ∧
    (s.energising k).reg.outcomeLoss = s.reg.outcomeLoss ∧ (s.energising k).pow.demand0 = s.pow.demand0 ∧
    (s.energising k).pow.demand1 = s.pow.demand1 ∧ (s.energising k).pow.demand2 = s.pow.demand2 ∧
    (s.energising k).pow.demand3 = s.pow.demand3 ∧ (s.energising k).inc = s.inc ∧ (s.energising k).kind = s.kind ∧
    (s.energising k).incident = s.incident ∧ (s.energising k).incNotice = s.incNotice ∧
    (s.energising k).interlocked = s.interlocked ∧ (s.energising k).fraction = s.fraction ∧
    (s.energising k).platHeld = s.platHeld ∧ (s.energising k).platHeadway = s.platHeadway ∧
    (s.energising k).com = s.com ∧ (s.energising k).station = s.station ∧ (s.energising k).template = s.template ∧
    (s.energising k).zone = s.zone ∧ (s.energising k).arming = s.arming := by
  generalize ht : (s.energising k) = t
  unfold State.energising at ht
  try dsimp only at ht
  (repeat' split at ht) <;> subst ht <;> simp

/-! ## ZoneOps -/

@[simp] theorem State.suspend_keeps (s : State) (k i : Nat) :
    (s.suspend k i).pending = s.pending ∧ (s.suspend k i).resetHeld = s.resetHeld ∧
    (s.suspend k i).event = s.event ∧ (s.suspend k i).hnd = s.hnd ∧ (s.suspend k i).cls = s.cls ∧
    (s.suspend k i).unit = s.unit ∧ (s.suspend k i).console = s.console ∧ (s.suspend k i).tim = s.tim ∧
    (s.suspend k i).supervision = s.supervision ∧ (s.suspend k i).reg = s.reg ∧ (s.suspend k i).slot = s.slot ∧
    (s.suspend k i).trainNotice = s.trainNotice ∧ (s.suspend k i).plat = s.plat ∧ (s.suspend k i).pow = s.pow ∧
    (s.suspend k i).feeder = s.feeder ∧ (s.suspend k i).sect = s.sect ∧ (s.suspend k i).pool = s.pool ∧
    (s.suspend k i).inc = s.inc ∧ (s.suspend k i).kind = s.kind ∧ (s.suspend k i).incident = s.incident ∧
    (s.suspend k i).incNotice = s.incNotice ∧ (s.suspend k i).interlocked = s.interlocked ∧
    (s.suspend k i).fraction = s.fraction ∧ (s.suspend k i).platHeld = s.platHeld ∧
    (s.suspend k i).platHeadway = s.platHeadway ∧ (s.suspend k i).com.stations = s.com.stations ∧
    (s.suspend k i).station = s.station ∧ (s.suspend k i).com.templates = s.com.templates ∧
    (s.suspend k i).template = s.template ∧ (s.suspend k i).com.armings = s.com.armings ∧
    (s.suspend k i).arming = s.arming ∧ (s.suspend k i).com.zoneDrops = s.com.zoneDrops ∧
    (s.suspend k i).fieldPort = s.fieldPort ∧ (s.suspend k i).consolePort = s.consolePort := by
  generalize ht : (s.suspend k i) = t
  unfold State.suspend at ht
  try dsimp only at ht
  (repeat' split at ht) <;> subst ht <;> simp

@[simp] theorem State.dropStale_keeps (s : State) (k : Nat) :
    (s.dropStale k).pending = s.pending ∧ (s.dropStale k).resetHeld = s.resetHeld ∧
    (s.dropStale k).event = s.event ∧ (s.dropStale k).hnd = s.hnd ∧ (s.dropStale k).cls = s.cls ∧
    (s.dropStale k).unit = s.unit ∧ (s.dropStale k).console = s.console ∧ (s.dropStale k).tim = s.tim ∧
    (s.dropStale k).supervision = s.supervision ∧ (s.dropStale k).reg = s.reg ∧ (s.dropStale k).slot = s.slot ∧
    (s.dropStale k).trainNotice = s.trainNotice ∧ (s.dropStale k).plat = s.plat ∧ (s.dropStale k).pow = s.pow ∧
    (s.dropStale k).feeder = s.feeder ∧ (s.dropStale k).sect = s.sect ∧ (s.dropStale k).pool = s.pool ∧
    (s.dropStale k).inc = s.inc ∧ (s.dropStale k).kind = s.kind ∧ (s.dropStale k).incident = s.incident ∧
    (s.dropStale k).incNotice = s.incNotice ∧ (s.dropStale k).interlocked = s.interlocked ∧
    (s.dropStale k).fraction = s.fraction ∧ (s.dropStale k).platHeld = s.platHeld ∧
    (s.dropStale k).platHeadway = s.platHeadway ∧ (s.dropStale k).com.stations = s.com.stations ∧
    (s.dropStale k).station = s.station ∧ (s.dropStale k).com.templates = s.com.templates ∧
    (s.dropStale k).template = s.template ∧ (s.dropStale k).com.armings = s.com.armings ∧
    (s.dropStale k).arming = s.arming ∧ (s.dropStale k).com.zoneDrops = s.com.zoneDrops ∧
    (s.dropStale k).fieldPort = s.fieldPort := by
  generalize ht : (s.dropStale k) = t
  unfold State.dropStale at ht
  try dsimp only at ht
  (repeat' split at ht) <;> subst ht <;> simp

@[simp] theorem State.markStart_keeps (s : State) (k : Nat) (g : Start) :
    (s.markStart k g).pending = s.pending ∧ (s.markStart k g).resetHeld = s.resetHeld ∧
    (s.markStart k g).event = s.event ∧ (s.markStart k g).hnd = s.hnd ∧ (s.markStart k g).cls = s.cls ∧
    (s.markStart k g).unit = s.unit ∧ (s.markStart k g).console = s.console ∧ (s.markStart k g).tim = s.tim ∧
    (s.markStart k g).supervision = s.supervision ∧ (s.markStart k g).reg = s.reg ∧ (s.markStart k g).slot = s.slot ∧
    (s.markStart k g).trainNotice = s.trainNotice ∧ (s.markStart k g).plat = s.plat ∧ (s.markStart k g).pow = s.pow ∧
    (s.markStart k g).feeder = s.feeder ∧ (s.markStart k g).sect = s.sect ∧ (s.markStart k g).pool = s.pool ∧
    (s.markStart k g).inc = s.inc ∧ (s.markStart k g).kind = s.kind ∧ (s.markStart k g).incident = s.incident ∧
    (s.markStart k g).incNotice = s.incNotice ∧ (s.markStart k g).interlocked = s.interlocked ∧
    (s.markStart k g).fraction = s.fraction ∧ (s.markStart k g).platHeld = s.platHeld ∧
    (s.markStart k g).platHeadway = s.platHeadway ∧ (s.markStart k g).com.stations = s.com.stations ∧
    (s.markStart k g).station = s.station ∧ (s.markStart k g).com.templates = s.com.templates ∧
    (s.markStart k g).template = s.template ∧ (s.markStart k g).com.armings = s.com.armings ∧
    (s.markStart k g).arming = s.arming ∧ (s.markStart k g).com.zoneDrops = s.com.zoneDrops ∧
    (s.markStart k g).fieldPort = s.fieldPort ∧ (s.markStart k g).consolePort = s.consolePort := by
  generalize ht : (s.markStart k g) = t
  unfold State.markStart at ht
  try dsimp only at ht
  (repeat' split at ht) <;> subst ht <;> simp

@[simp] theorem State.begin_keeps (s : State) (k : Nat) (c : QEntry → Bool) (i : Nat) (g : Start) :
    (s.begin k c i g).pending = s.pending ∧ (s.begin k c i g).resetHeld = s.resetHeld ∧
    (s.begin k c i g).event = s.event ∧ (s.begin k c i g).hnd = s.hnd ∧ (s.begin k c i g).cls = s.cls ∧
    (s.begin k c i g).unit = s.unit ∧ (s.begin k c i g).console = s.console ∧ (s.begin k c i g).tim = s.tim ∧
    (s.begin k c i g).supervision = s.supervision ∧ (s.begin k c i g).reg = s.reg ∧ (s.begin k c i g).slot = s.slot ∧
    (s.begin k c i g).trainNotice = s.trainNotice ∧ (s.begin k c i g).plat = s.plat ∧ (s.begin k c i g).pow = s.pow ∧
    (s.begin k c i g).feeder = s.feeder ∧ (s.begin k c i g).sect = s.sect ∧ (s.begin k c i g).pool = s.pool ∧
    (s.begin k c i g).inc = s.inc ∧ (s.begin k c i g).kind = s.kind ∧ (s.begin k c i g).incident = s.incident ∧
    (s.begin k c i g).incNotice = s.incNotice ∧ (s.begin k c i g).interlocked = s.interlocked ∧
    (s.begin k c i g).fraction = s.fraction ∧ (s.begin k c i g).platHeld = s.platHeld ∧
    (s.begin k c i g).platHeadway = s.platHeadway ∧ (s.begin k c i g).com.stations = s.com.stations ∧
    (s.begin k c i g).station = s.station ∧ (s.begin k c i g).com.templates = s.com.templates ∧
    (s.begin k c i g).template = s.template ∧ (s.begin k c i g).com.armings = s.com.armings ∧
    (s.begin k c i g).arming = s.arming ∧ (s.begin k c i g).com.zoneDrops = s.com.zoneDrops ∧
    (s.begin k c i g).consolePort = s.consolePort := by
  generalize ht : (s.begin k c i g) = t
  unfold State.begin at ht
  try dsimp only at ht
  (repeat' split at ht) <;> subst ht <;> simp

/-- The state that a round of selection leaves. -/
def Selection.state : Selection → State
  | .ended s | .again s => s

@[simp] theorem State.startComposed_keeps (s : State) (k : Nat) (e : QEntry) :
    (s.startComposed k e).state.pending = s.pending ∧ (s.startComposed k e).state.resetHeld = s.resetHeld ∧
    (s.startComposed k e).state.event = s.event ∧ (s.startComposed k e).state.hnd = s.hnd ∧
    (s.startComposed k e).state.cls = s.cls ∧ (s.startComposed k e).state.unit = s.unit ∧
    (s.startComposed k e).state.console = s.console ∧ (s.startComposed k e).state.tim = s.tim ∧
    (s.startComposed k e).state.supervision = s.supervision ∧ (s.startComposed k e).state.reg = s.reg ∧
    (s.startComposed k e).state.slot = s.slot ∧ (s.startComposed k e).state.trainNotice = s.trainNotice ∧
    (s.startComposed k e).state.plat = s.plat ∧ (s.startComposed k e).state.pow = s.pow ∧
    (s.startComposed k e).state.feeder = s.feeder ∧ (s.startComposed k e).state.sect = s.sect ∧
    (s.startComposed k e).state.pool = s.pool ∧ (s.startComposed k e).state.inc = s.inc ∧
    (s.startComposed k e).state.kind = s.kind ∧ (s.startComposed k e).state.incident = s.incident ∧
    (s.startComposed k e).state.incNotice = s.incNotice ∧ (s.startComposed k e).state.interlocked = s.interlocked ∧
    (s.startComposed k e).state.fraction = s.fraction ∧ (s.startComposed k e).state.platHeld = s.platHeld ∧
    (s.startComposed k e).state.platHeadway = s.platHeadway ∧
    (s.startComposed k e).state.com.stations = s.com.stations ∧ (s.startComposed k e).state.station = s.station ∧
    (s.startComposed k e).state.com.templates = s.com.templates ∧
    (s.startComposed k e).state.template = s.template ∧ (s.startComposed k e).state.com.armings = s.com.armings ∧
    (s.startComposed k e).state.arming = s.arming ∧ (s.startComposed k e).state.com.zoneDrops = s.com.zoneDrops := by
  generalize ht : (s.startComposed k e).state = t
  unfold State.startComposed at ht
  try dsimp only at ht
  split at ht <;> simp only [Selection.state] at ht <;> subst ht <;> simp

@[simp] theorem State.selectRound_keeps (s : State) (k : Nat) :
    (s.selectRound k).state.pending = s.pending ∧ (s.selectRound k).state.resetHeld = s.resetHeld ∧
    (s.selectRound k).state.event = s.event ∧ (s.selectRound k).state.hnd = s.hnd ∧
    (s.selectRound k).state.cls = s.cls ∧ (s.selectRound k).state.unit = s.unit ∧
    (s.selectRound k).state.console = s.console ∧ (s.selectRound k).state.tim = s.tim ∧
    (s.selectRound k).state.supervision = s.supervision ∧ (s.selectRound k).state.reg = s.reg ∧
    (s.selectRound k).state.slot = s.slot ∧ (s.selectRound k).state.trainNotice = s.trainNotice ∧
    (s.selectRound k).state.plat = s.plat ∧ (s.selectRound k).state.pow = s.pow ∧
    (s.selectRound k).state.feeder = s.feeder ∧ (s.selectRound k).state.sect = s.sect ∧
    (s.selectRound k).state.pool = s.pool ∧ (s.selectRound k).state.inc = s.inc ∧
    (s.selectRound k).state.kind = s.kind ∧ (s.selectRound k).state.incident = s.incident ∧
    (s.selectRound k).state.incNotice = s.incNotice ∧ (s.selectRound k).state.interlocked = s.interlocked ∧
    (s.selectRound k).state.fraction = s.fraction ∧ (s.selectRound k).state.platHeld = s.platHeld ∧
    (s.selectRound k).state.platHeadway = s.platHeadway ∧ (s.selectRound k).state.com.stations = s.com.stations ∧
    (s.selectRound k).state.station = s.station ∧ (s.selectRound k).state.com.templates = s.com.templates ∧
    (s.selectRound k).state.template = s.template ∧ (s.selectRound k).state.com.armings = s.com.armings ∧
    (s.selectRound k).state.arming = s.arming ∧ (s.selectRound k).state.com.zoneDrops = s.com.zoneDrops := by
  generalize ht : (s.selectRound k).state = t
  unfold State.selectRound at ht
  try dsimp only at ht
  split at ht
  · simp only [Selection.state] at ht; subst ht; simp
  · split at ht
    · simp only [Selection.state] at ht; subst ht; simp
    · subst ht; simp

@[simp] theorem State.selectRounds_keeps (s : State) (k n : Nat) :
    (State.selectRounds k n s).pending = s.pending ∧ (State.selectRounds k n s).resetHeld = s.resetHeld ∧
    (State.selectRounds k n s).event = s.event ∧ (State.selectRounds k n s).hnd = s.hnd ∧
    (State.selectRounds k n s).cls = s.cls ∧ (State.selectRounds k n s).unit = s.unit ∧
    (State.selectRounds k n s).console = s.console ∧ (State.selectRounds k n s).tim = s.tim ∧
    (State.selectRounds k n s).supervision = s.supervision ∧ (State.selectRounds k n s).reg = s.reg ∧
    (State.selectRounds k n s).slot = s.slot ∧ (State.selectRounds k n s).trainNotice = s.trainNotice ∧
    (State.selectRounds k n s).plat = s.plat ∧ (State.selectRounds k n s).pow = s.pow ∧
    (State.selectRounds k n s).feeder = s.feeder ∧ (State.selectRounds k n s).sect = s.sect ∧
    (State.selectRounds k n s).pool = s.pool ∧ (State.selectRounds k n s).inc = s.inc ∧
    (State.selectRounds k n s).kind = s.kind ∧ (State.selectRounds k n s).incident = s.incident ∧
    (State.selectRounds k n s).incNotice = s.incNotice ∧ (State.selectRounds k n s).interlocked = s.interlocked ∧
    (State.selectRounds k n s).fraction = s.fraction ∧ (State.selectRounds k n s).platHeld = s.platHeld ∧
    (State.selectRounds k n s).platHeadway = s.platHeadway ∧
    (State.selectRounds k n s).com.stations = s.com.stations ∧ (State.selectRounds k n s).station = s.station ∧
    (State.selectRounds k n s).com.templates = s.com.templates ∧ (State.selectRounds k n s).template = s.template ∧
    (State.selectRounds k n s).com.armings = s.com.armings ∧ (State.selectRounds k n s).arming = s.arming ∧
    (State.selectRounds k n s).com.zoneDrops = s.com.zoneDrops := by
  induction n generalizing s with
  | zero => simp [State.selectRounds]
  | succ n ih =>
    have h := State.selectRound_keeps s k
    simp only [State.selectRounds]
    split
    · rename_i s' heq
      simpa [heq, Selection.state] using h
    · rename_i s' heq
      simp only [heq, Selection.state] at h
      have := ih s'
      simp_all

@[simp] theorem State.select_keeps (s : State) (k : Nat) :
    (s.select k).pending = s.pending ∧ (s.select k).resetHeld = s.resetHeld ∧ (s.select k).event = s.event ∧
    (s.select k).hnd = s.hnd ∧ (s.select k).cls = s.cls ∧ (s.select k).unit = s.unit ∧
    (s.select k).console = s.console ∧ (s.select k).tim = s.tim ∧ (s.select k).supervision = s.supervision ∧
    (s.select k).reg = s.reg ∧ (s.select k).slot = s.slot ∧ (s.select k).trainNotice = s.trainNotice ∧
    (s.select k).plat = s.plat ∧ (s.select k).pow = s.pow ∧ (s.select k).feeder = s.feeder ∧
    (s.select k).sect = s.sect ∧ (s.select k).pool = s.pool ∧ (s.select k).inc = s.inc ∧
    (s.select k).kind = s.kind ∧ (s.select k).incident = s.incident ∧ (s.select k).incNotice = s.incNotice ∧
    (s.select k).interlocked = s.interlocked ∧ (s.select k).fraction = s.fraction ∧
    (s.select k).platHeld = s.platHeld ∧ (s.select k).platHeadway = s.platHeadway ∧
    (s.select k).com.stations = s.com.stations ∧ (s.select k).station = s.station ∧
    (s.select k).com.templates = s.com.templates ∧ (s.select k).template = s.template ∧
    (s.select k).com.armings = s.com.armings ∧ (s.select k).arming = s.arming ∧
    (s.select k).com.zoneDrops = s.com.zoneDrops := by
  unfold State.select
  split
  · simp
  · simp

@[simp] theorem State.idleSelect_keeps (s : State) (k : Nat) :
    (s.idleSelect k).pending = s.pending ∧ (s.idleSelect k).resetHeld = s.resetHeld ∧
    (s.idleSelect k).event = s.event ∧ (s.idleSelect k).hnd = s.hnd ∧ (s.idleSelect k).cls = s.cls ∧
    (s.idleSelect k).unit = s.unit ∧ (s.idleSelect k).console = s.console ∧ (s.idleSelect k).tim = s.tim ∧
    (s.idleSelect k).supervision = s.supervision ∧ (s.idleSelect k).reg = s.reg ∧ (s.idleSelect k).slot = s.slot ∧
    (s.idleSelect k).trainNotice = s.trainNotice ∧ (s.idleSelect k).plat = s.plat ∧ (s.idleSelect k).pow = s.pow ∧
    (s.idleSelect k).feeder = s.feeder ∧ (s.idleSelect k).sect = s.sect ∧ (s.idleSelect k).pool = s.pool ∧
    (s.idleSelect k).inc = s.inc ∧ (s.idleSelect k).kind = s.kind ∧ (s.idleSelect k).incident = s.incident ∧
    (s.idleSelect k).incNotice = s.incNotice ∧ (s.idleSelect k).interlocked = s.interlocked ∧
    (s.idleSelect k).fraction = s.fraction ∧ (s.idleSelect k).platHeld = s.platHeld ∧
    (s.idleSelect k).platHeadway = s.platHeadway ∧ (s.idleSelect k).com.stations = s.com.stations ∧
    (s.idleSelect k).station = s.station ∧ (s.idleSelect k).com.templates = s.com.templates ∧
    (s.idleSelect k).template = s.template ∧ (s.idleSelect k).com.armings = s.com.armings ∧
    (s.idleSelect k).arming = s.arming ∧ (s.idleSelect k).com.zoneDrops = s.com.zoneDrops := by
  generalize ht : (s.idleSelect k) = t
  unfold State.idleSelect at ht
  try dsimp only at ht
  (repeat' split at ht) <;> subst ht <;> simp

@[simp] theorem State.abortIfQueued_keeps (s : State) (k : Nat) :
    (s.abortIfQueued k).pending = s.pending ∧ (s.abortIfQueued k).resetHeld = s.resetHeld ∧
    (s.abortIfQueued k).event = s.event ∧ (s.abortIfQueued k).hnd = s.hnd ∧ (s.abortIfQueued k).cls = s.cls ∧
    (s.abortIfQueued k).unit = s.unit ∧ (s.abortIfQueued k).console = s.console ∧ (s.abortIfQueued k).tim = s.tim ∧
    (s.abortIfQueued k).supervision = s.supervision ∧ (s.abortIfQueued k).reg = s.reg ∧
    (s.abortIfQueued k).slot = s.slot ∧ (s.abortIfQueued k).trainNotice = s.trainNotice ∧
    (s.abortIfQueued k).plat = s.plat ∧ (s.abortIfQueued k).pow = s.pow ∧ (s.abortIfQueued k).feeder = s.feeder ∧
    (s.abortIfQueued k).sect = s.sect ∧ (s.abortIfQueued k).pool = s.pool ∧ (s.abortIfQueued k).inc = s.inc ∧
    (s.abortIfQueued k).kind = s.kind ∧ (s.abortIfQueued k).incident = s.incident ∧
    (s.abortIfQueued k).incNotice = s.incNotice ∧ (s.abortIfQueued k).interlocked = s.interlocked ∧
    (s.abortIfQueued k).fraction = s.fraction ∧ (s.abortIfQueued k).platHeld = s.platHeld ∧
    (s.abortIfQueued k).platHeadway = s.platHeadway ∧ (s.abortIfQueued k).com.stations = s.com.stations ∧
    (s.abortIfQueued k).station = s.station ∧ (s.abortIfQueued k).com.templates = s.com.templates ∧
    (s.abortIfQueued k).template = s.template ∧ (s.abortIfQueued k).com.armings = s.com.armings ∧
    (s.abortIfQueued k).arming = s.arming ∧ (s.abortIfQueued k).com.zoneDrops = s.com.zoneDrops ∧
    (s.abortIfQueued k).consolePort = s.consolePort := by
  generalize ht : (s.abortIfQueued k) = t
  unfold State.abortIfQueued at ht
  try dsimp only at ht
  (repeat' split at ht) <;> subst ht <;> simp

@[simp] theorem State.interrupt_keeps (s : State) (k : Nat) :
    (s.interrupt k).pending = s.pending ∧ (s.interrupt k).resetHeld = s.resetHeld ∧
    (s.interrupt k).event = s.event ∧ (s.interrupt k).hnd = s.hnd ∧ (s.interrupt k).cls = s.cls ∧
    (s.interrupt k).unit = s.unit ∧ (s.interrupt k).console = s.console ∧ (s.interrupt k).tim = s.tim ∧
    (s.interrupt k).supervision = s.supervision ∧ (s.interrupt k).reg = s.reg ∧ (s.interrupt k).slot = s.slot ∧
    (s.interrupt k).trainNotice = s.trainNotice ∧ (s.interrupt k).plat = s.plat ∧ (s.interrupt k).pow = s.pow ∧
    (s.interrupt k).feeder = s.feeder ∧ (s.interrupt k).sect = s.sect ∧ (s.interrupt k).pool = s.pool ∧
    (s.interrupt k).inc = s.inc ∧ (s.interrupt k).kind = s.kind ∧ (s.interrupt k).incident = s.incident ∧
    (s.interrupt k).incNotice = s.incNotice ∧ (s.interrupt k).interlocked = s.interlocked ∧
    (s.interrupt k).fraction = s.fraction ∧ (s.interrupt k).platHeld = s.platHeld ∧
    (s.interrupt k).platHeadway = s.platHeadway ∧ (s.interrupt k).com.stations = s.com.stations ∧
    (s.interrupt k).station = s.station ∧ (s.interrupt k).com.templates = s.com.templates ∧
    (s.interrupt k).template = s.template ∧ (s.interrupt k).com.armings = s.com.armings ∧
    (s.interrupt k).arming = s.arming ∧ (s.interrupt k).com.zoneDrops = s.com.zoneDrops := by
  generalize ht : (s.interrupt k) = t
  unfold State.interrupt at ht
  try dsimp only at ht
  (repeat' split at ht) <;> subst ht <;> simp

@[simp] theorem State.endPlaying_keeps (s : State) (k : Nat) (r : ZoneReason) :
    (s.endPlaying k r).pending = s.pending ∧ (s.endPlaying k r).resetHeld = s.resetHeld ∧
    (s.endPlaying k r).event = s.event ∧ (s.endPlaying k r).hnd = s.hnd ∧ (s.endPlaying k r).cls = s.cls ∧
    (s.endPlaying k r).unit = s.unit ∧ (s.endPlaying k r).console = s.console ∧ (s.endPlaying k r).tim = s.tim ∧
    (s.endPlaying k r).supervision = s.supervision ∧ (s.endPlaying k r).reg = s.reg ∧
    (s.endPlaying k r).slot = s.slot ∧ (s.endPlaying k r).trainNotice = s.trainNotice ∧
    (s.endPlaying k r).plat = s.plat ∧ (s.endPlaying k r).pow = s.pow ∧ (s.endPlaying k r).feeder = s.feeder ∧
    (s.endPlaying k r).sect = s.sect ∧ (s.endPlaying k r).pool = s.pool ∧ (s.endPlaying k r).inc = s.inc ∧
    (s.endPlaying k r).kind = s.kind ∧ (s.endPlaying k r).incident = s.incident ∧
    (s.endPlaying k r).incNotice = s.incNotice ∧ (s.endPlaying k r).interlocked = s.interlocked ∧
    (s.endPlaying k r).fraction = s.fraction ∧ (s.endPlaying k r).platHeld = s.platHeld ∧
    (s.endPlaying k r).platHeadway = s.platHeadway ∧ (s.endPlaying k r).com.stations = s.com.stations ∧
    (s.endPlaying k r).station = s.station ∧ (s.endPlaying k r).com.templates = s.com.templates ∧
    (s.endPlaying k r).template = s.template ∧ (s.endPlaying k r).com.armings = s.com.armings ∧
    (s.endPlaying k r).arming = s.arming ∧ (s.endPlaying k r).com.zoneDrops = s.com.zoneDrops ∧
    (s.endPlaying k r).fieldPort = s.fieldPort := by
  generalize ht : (s.endPlaying k r) = t
  unfold State.endPlaying at ht
  try dsimp only at ht
  (repeat' split at ht) <;> subst ht <;> simp

@[simp] theorem State.endPlay_keeps (s : State) (k : Nat) :
    (s.endPlay k).pending = s.pending ∧ (s.endPlay k).resetHeld = s.resetHeld ∧ (s.endPlay k).event = s.event ∧
    (s.endPlay k).hnd = s.hnd ∧ (s.endPlay k).cls = s.cls ∧ (s.endPlay k).unit = s.unit ∧
    (s.endPlay k).console = s.console ∧ (s.endPlay k).tim = s.tim ∧ (s.endPlay k).supervision = s.supervision ∧
    (s.endPlay k).reg = s.reg ∧ (s.endPlay k).slot = s.slot ∧ (s.endPlay k).trainNotice = s.trainNotice ∧
    (s.endPlay k).plat = s.plat ∧ (s.endPlay k).pow = s.pow ∧ (s.endPlay k).feeder = s.feeder ∧
    (s.endPlay k).sect = s.sect ∧ (s.endPlay k).pool = s.pool ∧ (s.endPlay k).inc = s.inc ∧
    (s.endPlay k).kind = s.kind ∧ (s.endPlay k).incident = s.incident ∧ (s.endPlay k).incNotice = s.incNotice ∧
    (s.endPlay k).interlocked = s.interlocked ∧ (s.endPlay k).fraction = s.fraction ∧
    (s.endPlay k).platHeld = s.platHeld ∧ (s.endPlay k).platHeadway = s.platHeadway ∧
    (s.endPlay k).com.stations = s.com.stations ∧ (s.endPlay k).station = s.station ∧
    (s.endPlay k).com.templates = s.com.templates ∧ (s.endPlay k).template = s.template ∧
    (s.endPlay k).com.armings = s.com.armings ∧ (s.endPlay k).arming = s.arming ∧
    (s.endPlay k).com.zoneDrops = s.com.zoneDrops := by
  generalize ht : (s.endPlay k) = t
  unfold State.endPlay at ht
  try dsimp only at ht
  (repeat' split at ht) <;> subst ht <;> simp

@[simp] theorem State.undoStart_keeps (s : State) (k : Nat) (g : Start) :
    (s.undoStart k g).pending = s.pending ∧ (s.undoStart k g).resetHeld = s.resetHeld ∧
    (s.undoStart k g).event = s.event ∧ (s.undoStart k g).hnd = s.hnd ∧ (s.undoStart k g).cls = s.cls ∧
    (s.undoStart k g).unit = s.unit ∧ (s.undoStart k g).console = s.console ∧ (s.undoStart k g).tim = s.tim ∧
    (s.undoStart k g).supervision = s.supervision ∧ (s.undoStart k g).reg = s.reg ∧ (s.undoStart k g).slot = s.slot ∧
    (s.undoStart k g).trainNotice = s.trainNotice ∧ (s.undoStart k g).plat = s.plat ∧ (s.undoStart k g).pow = s.pow ∧
    (s.undoStart k g).feeder = s.feeder ∧ (s.undoStart k g).sect = s.sect ∧ (s.undoStart k g).pool = s.pool ∧
    (s.undoStart k g).inc = s.inc ∧ (s.undoStart k g).kind = s.kind ∧ (s.undoStart k g).incident = s.incident ∧
    (s.undoStart k g).incNotice = s.incNotice ∧ (s.undoStart k g).interlocked = s.interlocked ∧
    (s.undoStart k g).fraction = s.fraction ∧ (s.undoStart k g).platHeld = s.platHeld ∧
    (s.undoStart k g).platHeadway = s.platHeadway ∧ (s.undoStart k g).com.stations = s.com.stations ∧
    (s.undoStart k g).station = s.station ∧ (s.undoStart k g).com.templates = s.com.templates ∧
    (s.undoStart k g).template = s.template ∧ (s.undoStart k g).com.armings = s.com.armings ∧
    (s.undoStart k g).arming = s.arming ∧ (s.undoStart k g).com.zoneDrops = s.com.zoneDrops ∧
    (s.undoStart k g).fieldPort = s.fieldPort ∧ (s.undoStart k g).consolePort = s.consolePort := by
  generalize ht : (s.undoStart k g) = t
  unfold State.undoStart at ht
  try dsimp only at ht
  (repeat' split at ht) <;> subst ht <;> simp

@[simp] theorem State.backToBoundary_keeps (s : State) (k : Nat) :
    (s.backToBoundary k).pending = s.pending ∧ (s.backToBoundary k).resetHeld = s.resetHeld ∧
    (s.backToBoundary k).event = s.event ∧ (s.backToBoundary k).hnd = s.hnd ∧ (s.backToBoundary k).cls = s.cls ∧
    (s.backToBoundary k).unit = s.unit ∧ (s.backToBoundary k).console = s.console ∧ (s.backToBoundary k).tim = s.tim ∧
    (s.backToBoundary k).supervision = s.supervision ∧ (s.backToBoundary k).reg = s.reg ∧
    (s.backToBoundary k).slot = s.slot ∧ (s.backToBoundary k).trainNotice = s.trainNotice ∧
    (s.backToBoundary k).plat = s.plat ∧ (s.backToBoundary k).pow = s.pow ∧ (s.backToBoundary k).feeder = s.feeder ∧
    (s.backToBoundary k).sect = s.sect ∧ (s.backToBoundary k).pool = s.pool ∧ (s.backToBoundary k).inc = s.inc ∧
    (s.backToBoundary k).kind = s.kind ∧ (s.backToBoundary k).incident = s.incident ∧
    (s.backToBoundary k).incNotice = s.incNotice ∧ (s.backToBoundary k).interlocked = s.interlocked ∧
    (s.backToBoundary k).fraction = s.fraction ∧ (s.backToBoundary k).platHeld = s.platHeld ∧
    (s.backToBoundary k).platHeadway = s.platHeadway ∧ (s.backToBoundary k).com.stations = s.com.stations ∧
    (s.backToBoundary k).station = s.station ∧ (s.backToBoundary k).com.templates = s.com.templates ∧
    (s.backToBoundary k).template = s.template ∧ (s.backToBoundary k).com.armings = s.com.armings ∧
    (s.backToBoundary k).arming = s.arming ∧ (s.backToBoundary k).com.zoneDrops = s.com.zoneDrops ∧
    (s.backToBoundary k).fieldPort = s.fieldPort ∧ (s.backToBoundary k).consolePort = s.consolePort := by
  generalize ht : (s.backToBoundary k) = t
  unfold State.backToBoundary at ht
  try dsimp only at ht
  (repeat' split at ht) <;> subst ht <;> simp

@[simp] theorem State.preempt_keeps (s : State) (k : Nat) :
    (s.preempt k).pending = s.pending ∧ (s.preempt k).resetHeld = s.resetHeld ∧
    (s.preempt k).event = s.event ∧ (s.preempt k).hnd = s.hnd ∧ (s.preempt k).cls = s.cls ∧
    (s.preempt k).unit = s.unit ∧ (s.preempt k).console = s.console ∧ (s.preempt k).tim = s.tim ∧
    (s.preempt k).supervision = s.supervision ∧ (s.preempt k).reg = s.reg ∧ (s.preempt k).slot = s.slot ∧
    (s.preempt k).trainNotice = s.trainNotice ∧ (s.preempt k).plat = s.plat ∧ (s.preempt k).pow = s.pow ∧
    (s.preempt k).feeder = s.feeder ∧ (s.preempt k).sect = s.sect ∧ (s.preempt k).pool = s.pool ∧
    (s.preempt k).inc = s.inc ∧ (s.preempt k).kind = s.kind ∧ (s.preempt k).incident = s.incident ∧
    (s.preempt k).incNotice = s.incNotice ∧ (s.preempt k).interlocked = s.interlocked ∧
    (s.preempt k).fraction = s.fraction ∧ (s.preempt k).platHeld = s.platHeld ∧
    (s.preempt k).platHeadway = s.platHeadway ∧ (s.preempt k).com.stations = s.com.stations ∧
    (s.preempt k).station = s.station ∧ (s.preempt k).com.templates = s.com.templates ∧
    (s.preempt k).template = s.template ∧ (s.preempt k).com.armings = s.com.armings ∧
    (s.preempt k).arming = s.arming ∧ (s.preempt k).com.zoneDrops = s.com.zoneDrops := by
  generalize ht : (s.preempt k) = t
  unfold State.preempt at ht
  try dsimp only at ht
  (repeat' split at ht) <;> subst ht <;> simp

@[simp] theorem State.joinZone_keeps (s : State) (k : Nat) (e : QEntry) :
    (s.joinZone k e).pending = s.pending ∧ (s.joinZone k e).resetHeld = s.resetHeld ∧
    (s.joinZone k e).event = s.event ∧ (s.joinZone k e).hnd = s.hnd ∧ (s.joinZone k e).cls = s.cls ∧
    (s.joinZone k e).unit = s.unit ∧ (s.joinZone k e).console = s.console ∧ (s.joinZone k e).tim = s.tim ∧
    (s.joinZone k e).supervision = s.supervision ∧ (s.joinZone k e).reg = s.reg ∧ (s.joinZone k e).slot = s.slot ∧
    (s.joinZone k e).trainNotice = s.trainNotice ∧ (s.joinZone k e).plat = s.plat ∧ (s.joinZone k e).pow = s.pow ∧
    (s.joinZone k e).feeder = s.feeder ∧ (s.joinZone k e).sect = s.sect ∧ (s.joinZone k e).pool = s.pool ∧
    (s.joinZone k e).inc = s.inc ∧ (s.joinZone k e).kind = s.kind ∧ (s.joinZone k e).incident = s.incident ∧
    (s.joinZone k e).incNotice = s.incNotice ∧ (s.joinZone k e).interlocked = s.interlocked ∧
    (s.joinZone k e).fraction = s.fraction ∧ (s.joinZone k e).platHeld = s.platHeld ∧
    (s.joinZone k e).platHeadway = s.platHeadway ∧ (s.joinZone k e).com.stations = s.com.stations ∧
    (s.joinZone k e).station = s.station ∧ (s.joinZone k e).com.templates = s.com.templates ∧
    (s.joinZone k e).template = s.template ∧ (s.joinZone k e).com.armings = s.com.armings ∧
    (s.joinZone k e).arming = s.arming ∧ (s.joinZone k e).com.zoneDrops = s.com.zoneDrops := by
  generalize ht : (s.joinZone k e) = t
  unfold State.joinZone at ht
  try dsimp only at ht
  (repeat' split at ht) <;> subst ht <;> simp

@[simp] theorem State.countDrop_keeps (s : State) :
    s.countDrop.pending = s.pending ∧ s.countDrop.resetHeld = s.resetHeld ∧ s.countDrop.event = s.event ∧
    s.countDrop.hnd = s.hnd ∧ s.countDrop.cls = s.cls ∧ s.countDrop.unit = s.unit ∧
    s.countDrop.console = s.console ∧ s.countDrop.tim = s.tim ∧ s.countDrop.supervision = s.supervision ∧
    s.countDrop.reg = s.reg ∧ s.countDrop.slot = s.slot ∧ s.countDrop.trainNotice = s.trainNotice ∧
    s.countDrop.plat = s.plat ∧ s.countDrop.pow = s.pow ∧ s.countDrop.feeder = s.feeder ∧
    s.countDrop.sect = s.sect ∧ s.countDrop.pool = s.pool ∧ s.countDrop.inc = s.inc ∧ s.countDrop.kind = s.kind ∧
    s.countDrop.incident = s.incident ∧ s.countDrop.incNotice = s.incNotice ∧
    s.countDrop.interlocked = s.interlocked ∧ s.countDrop.fraction = s.fraction ∧
    s.countDrop.platHeld = s.platHeld ∧ s.countDrop.platHeadway = s.platHeadway ∧
    s.countDrop.com.stations = s.com.stations ∧ s.countDrop.station = s.station ∧
    s.countDrop.com.templates = s.com.templates ∧ s.countDrop.template = s.template ∧
    s.countDrop.com.zones = s.com.zones ∧ s.countDrop.zone = s.zone ∧ s.countDrop.com.armings = s.com.armings ∧
    s.countDrop.arming = s.arming ∧ s.countDrop.fieldPort = s.fieldPort ∧ s.countDrop.consolePort = s.consolePort := by
  generalize ht : s.countDrop = t
  unfold State.countDrop at ht
  try dsimp only at ht
  (repeat' split at ht) <;> subst ht <;> simp

@[simp] theorem State.notTaken_keeps (s : State) (k : Nat) (e : QEntry) :
    (s.notTaken k e).1.pending = s.pending ∧ (s.notTaken k e).1.resetHeld = s.resetHeld ∧
    (s.notTaken k e).1.event = s.event ∧ (s.notTaken k e).1.hnd = s.hnd ∧ (s.notTaken k e).1.cls = s.cls ∧
    (s.notTaken k e).1.unit = s.unit ∧ (s.notTaken k e).1.console = s.console ∧ (s.notTaken k e).1.tim = s.tim ∧
    (s.notTaken k e).1.supervision = s.supervision ∧ (s.notTaken k e).1.reg = s.reg ∧
    (s.notTaken k e).1.slot = s.slot ∧ (s.notTaken k e).1.trainNotice = s.trainNotice ∧
    (s.notTaken k e).1.plat = s.plat ∧ (s.notTaken k e).1.pow = s.pow ∧ (s.notTaken k e).1.feeder = s.feeder ∧
    (s.notTaken k e).1.sect = s.sect ∧ (s.notTaken k e).1.pool = s.pool ∧ (s.notTaken k e).1.inc = s.inc ∧
    (s.notTaken k e).1.kind = s.kind ∧ (s.notTaken k e).1.incident = s.incident ∧
    (s.notTaken k e).1.incNotice = s.incNotice ∧ (s.notTaken k e).1.interlocked = s.interlocked ∧
    (s.notTaken k e).1.fraction = s.fraction ∧ (s.notTaken k e).1.platHeld = s.platHeld ∧
    (s.notTaken k e).1.platHeadway = s.platHeadway ∧ (s.notTaken k e).1.com.stations = s.com.stations ∧
    (s.notTaken k e).1.station = s.station ∧ (s.notTaken k e).1.com.templates = s.com.templates ∧
    (s.notTaken k e).1.template = s.template ∧ (s.notTaken k e).1.com.armings = s.com.armings ∧
    (s.notTaken k e).1.arming = s.arming ∧ (s.notTaken k e).1.fieldPort = s.fieldPort := by
  generalize ht : (s.notTaken k e).1 = t
  unfold State.notTaken at ht
  try dsimp only at ht
  (repeat' split at ht) <;> subst ht <;> simp

@[simp] theorem State.offer_keeps (s : State) (k : Nat) (e : QEntry) :
    (s.offer k e).1.pending = s.pending ∧ (s.offer k e).1.resetHeld = s.resetHeld ∧
    (s.offer k e).1.event = s.event ∧ (s.offer k e).1.hnd = s.hnd ∧ (s.offer k e).1.cls = s.cls ∧
    (s.offer k e).1.unit = s.unit ∧ (s.offer k e).1.console = s.console ∧ (s.offer k e).1.tim = s.tim ∧
    (s.offer k e).1.supervision = s.supervision ∧ (s.offer k e).1.reg = s.reg ∧ (s.offer k e).1.slot = s.slot ∧
    (s.offer k e).1.trainNotice = s.trainNotice ∧ (s.offer k e).1.plat = s.plat ∧ (s.offer k e).1.pow = s.pow ∧
    (s.offer k e).1.feeder = s.feeder ∧ (s.offer k e).1.sect = s.sect ∧ (s.offer k e).1.pool = s.pool ∧
    (s.offer k e).1.inc = s.inc ∧ (s.offer k e).1.kind = s.kind ∧ (s.offer k e).1.incident = s.incident ∧
    (s.offer k e).1.incNotice = s.incNotice ∧ (s.offer k e).1.interlocked = s.interlocked ∧
    (s.offer k e).1.fraction = s.fraction ∧ (s.offer k e).1.platHeld = s.platHeld ∧
    (s.offer k e).1.platHeadway = s.platHeadway ∧ (s.offer k e).1.com.stations = s.com.stations ∧
    (s.offer k e).1.station = s.station ∧ (s.offer k e).1.com.templates = s.com.templates ∧
    (s.offer k e).1.template = s.template ∧ (s.offer k e).1.com.armings = s.com.armings ∧
    (s.offer k e).1.arming = s.arming := by
  generalize ht : (s.offer k e).1 = t
  unfold State.offer at ht
  try dsimp only at ht
  (repeat' split at ht) <;> subst ht <;> simp

@[simp] theorem State.offerOwn_keeps (s : State) (k : Nat) (e : QEntry) :
    (s.offerOwn k e).pending = s.pending ∧ (s.offerOwn k e).resetHeld = s.resetHeld ∧
    (s.offerOwn k e).event = s.event ∧ (s.offerOwn k e).hnd = s.hnd ∧ (s.offerOwn k e).cls = s.cls ∧
    (s.offerOwn k e).unit = s.unit ∧ (s.offerOwn k e).console = s.console ∧ (s.offerOwn k e).tim = s.tim ∧
    (s.offerOwn k e).supervision = s.supervision ∧ (s.offerOwn k e).reg = s.reg ∧ (s.offerOwn k e).slot = s.slot ∧
    (s.offerOwn k e).trainNotice = s.trainNotice ∧ (s.offerOwn k e).plat = s.plat ∧ (s.offerOwn k e).pow = s.pow ∧
    (s.offerOwn k e).feeder = s.feeder ∧ (s.offerOwn k e).sect = s.sect ∧ (s.offerOwn k e).pool = s.pool ∧
    (s.offerOwn k e).inc = s.inc ∧ (s.offerOwn k e).kind = s.kind ∧ (s.offerOwn k e).incident = s.incident ∧
    (s.offerOwn k e).incNotice = s.incNotice ∧ (s.offerOwn k e).interlocked = s.interlocked ∧
    (s.offerOwn k e).fraction = s.fraction ∧ (s.offerOwn k e).platHeld = s.platHeld ∧
    (s.offerOwn k e).platHeadway = s.platHeadway ∧ (s.offerOwn k e).com.stations = s.com.stations ∧
    (s.offerOwn k e).station = s.station ∧ (s.offerOwn k e).com.templates = s.com.templates ∧
    (s.offerOwn k e).template = s.template ∧ (s.offerOwn k e).com.armings = s.com.armings ∧
    (s.offerOwn k e).arming = s.arming := by
  generalize ht : (s.offerOwn k e) = t
  unfold State.offerOwn at ht
  try dsimp only at ht
  (repeat' split at ht) <;> subst ht <;> simp

@[simp] theorem State.takeLock_keeps (s : State) (k : Nat) (l : Lock) :
    (s.takeLock k l).pending = s.pending ∧ (s.takeLock k l).resetHeld = s.resetHeld ∧
    (s.takeLock k l).event = s.event ∧ (s.takeLock k l).hnd = s.hnd ∧ (s.takeLock k l).cls = s.cls ∧
    (s.takeLock k l).unit = s.unit ∧ (s.takeLock k l).console = s.console ∧ (s.takeLock k l).tim = s.tim ∧
    (s.takeLock k l).supervision = s.supervision ∧ (s.takeLock k l).reg = s.reg ∧ (s.takeLock k l).slot = s.slot ∧
    (s.takeLock k l).trainNotice = s.trainNotice ∧ (s.takeLock k l).plat = s.plat ∧ (s.takeLock k l).pow = s.pow ∧
    (s.takeLock k l).feeder = s.feeder ∧ (s.takeLock k l).sect = s.sect ∧ (s.takeLock k l).pool = s.pool ∧
    (s.takeLock k l).inc = s.inc ∧ (s.takeLock k l).kind = s.kind ∧ (s.takeLock k l).incident = s.incident ∧
    (s.takeLock k l).incNotice = s.incNotice ∧ (s.takeLock k l).interlocked = s.interlocked ∧
    (s.takeLock k l).fraction = s.fraction ∧ (s.takeLock k l).platHeld = s.platHeld ∧
    (s.takeLock k l).platHeadway = s.platHeadway ∧ (s.takeLock k l).com.stations = s.com.stations ∧
    (s.takeLock k l).station = s.station ∧ (s.takeLock k l).com.templates = s.com.templates ∧
    (s.takeLock k l).template = s.template ∧ (s.takeLock k l).com.armings = s.com.armings ∧
    (s.takeLock k l).arming = s.arming ∧ (s.takeLock k l).com.zoneDrops = s.com.zoneDrops := by
  generalize ht : (s.takeLock k l) = t
  unfold State.takeLock at ht
  try dsimp only at ht
  (repeat' split at ht) <;> subst ht <;> simp

@[simp] theorem State.releaseLock_keeps (s : State) (k : Nat) (r : ZoneReason) :
    (s.releaseLock k r).pending = s.pending ∧ (s.releaseLock k r).resetHeld = s.resetHeld ∧
    (s.releaseLock k r).event = s.event ∧ (s.releaseLock k r).hnd = s.hnd ∧ (s.releaseLock k r).cls = s.cls ∧
    (s.releaseLock k r).unit = s.unit ∧ (s.releaseLock k r).console = s.console ∧ (s.releaseLock k r).tim = s.tim ∧
    (s.releaseLock k r).supervision = s.supervision ∧ (s.releaseLock k r).reg = s.reg ∧
    (s.releaseLock k r).slot = s.slot ∧ (s.releaseLock k r).trainNotice = s.trainNotice ∧
    (s.releaseLock k r).plat = s.plat ∧ (s.releaseLock k r).pow = s.pow ∧ (s.releaseLock k r).feeder = s.feeder ∧
    (s.releaseLock k r).sect = s.sect ∧ (s.releaseLock k r).pool = s.pool ∧ (s.releaseLock k r).inc = s.inc ∧
    (s.releaseLock k r).kind = s.kind ∧ (s.releaseLock k r).incident = s.incident ∧
    (s.releaseLock k r).incNotice = s.incNotice ∧ (s.releaseLock k r).interlocked = s.interlocked ∧
    (s.releaseLock k r).fraction = s.fraction ∧ (s.releaseLock k r).platHeld = s.platHeld ∧
    (s.releaseLock k r).platHeadway = s.platHeadway ∧ (s.releaseLock k r).com.stations = s.com.stations ∧
    (s.releaseLock k r).station = s.station ∧ (s.releaseLock k r).com.templates = s.com.templates ∧
    (s.releaseLock k r).template = s.template ∧ (s.releaseLock k r).com.armings = s.com.armings ∧
    (s.releaseLock k r).arming = s.arming ∧ (s.releaseLock k r).com.zoneDrops = s.com.zoneDrops := by
  generalize ht : (s.releaseLock k r) = t
  unfold State.releaseLock at ht
  try dsimp only at ht
  (repeat' split at ht) <;> subst ht <;> simp

@[simp] theorem State.lockToIncident_keeps (s : State) (n k : Nat) :
    (s.lockToIncident n k).pending = s.pending ∧ (s.lockToIncident n k).resetHeld = s.resetHeld ∧
    (s.lockToIncident n k).event = s.event ∧ (s.lockToIncident n k).hnd = s.hnd ∧
    (s.lockToIncident n k).cls = s.cls ∧ (s.lockToIncident n k).unit = s.unit ∧
    (s.lockToIncident n k).console = s.console ∧ (s.lockToIncident n k).tim = s.tim ∧
    (s.lockToIncident n k).supervision = s.supervision ∧ (s.lockToIncident n k).reg = s.reg ∧
    (s.lockToIncident n k).slot = s.slot ∧ (s.lockToIncident n k).trainNotice = s.trainNotice ∧
    (s.lockToIncident n k).plat = s.plat ∧ (s.lockToIncident n k).pow = s.pow ∧
    (s.lockToIncident n k).feeder = s.feeder ∧ (s.lockToIncident n k).sect = s.sect ∧
    (s.lockToIncident n k).pool = s.pool ∧ (s.lockToIncident n k).inc = s.inc ∧
    (s.lockToIncident n k).kind = s.kind ∧ (s.lockToIncident n k).incident = s.incident ∧
    (s.lockToIncident n k).incNotice = s.incNotice ∧ (s.lockToIncident n k).interlocked = s.interlocked ∧
    (s.lockToIncident n k).fraction = s.fraction ∧ (s.lockToIncident n k).platHeld = s.platHeld ∧
    (s.lockToIncident n k).platHeadway = s.platHeadway ∧ (s.lockToIncident n k).com.stations = s.com.stations ∧
    (s.lockToIncident n k).station = s.station ∧ (s.lockToIncident n k).com.templates = s.com.templates ∧
    (s.lockToIncident n k).template = s.template ∧ (s.lockToIncident n k).com.armings = s.com.armings ∧
    (s.lockToIncident n k).arming = s.arming ∧ (s.lockToIncident n k).com.zoneDrops = s.com.zoneDrops := by
  generalize ht : (s.lockToIncident n k) = t
  unfold State.lockToIncident at ht
  try dsimp only at ht
  (repeat' split at ht) <;> subst ht <;> simp

/-! ## Incidents -/

@[simp] theorem State.recomputeEffects_keeps (s : State) :
    s.recomputeEffects.pending = s.pending ∧ s.recomputeEffects.resetHeld = s.resetHeld ∧
    s.recomputeEffects.event = s.event ∧ s.recomputeEffects.hnd = s.hnd ∧ s.recomputeEffects.cls = s.cls ∧
    s.recomputeEffects.unit = s.unit ∧ s.recomputeEffects.console = s.console ∧ s.recomputeEffects.tim = s.tim ∧
    s.recomputeEffects.supervision = s.supervision ∧ s.recomputeEffects.reg = s.reg ∧
    s.recomputeEffects.slot = s.slot ∧ s.recomputeEffects.trainNotice = s.trainNotice ∧
    s.recomputeEffects.plat = s.plat ∧ s.recomputeEffects.pow = s.pow ∧ s.recomputeEffects.feeder = s.feeder ∧
    s.recomputeEffects.sect = s.sect ∧ s.recomputeEffects.pool = s.pool ∧
    s.recomputeEffects.inc.kinds = s.inc.kinds ∧ s.recomputeEffects.kind = s.kind ∧
    s.recomputeEffects.inc.entries = s.inc.entries ∧ s.recomputeEffects.incident = s.incident ∧
    s.recomputeEffects.inc.cleared = s.inc.cleared ∧ s.recomputeEffects.inc.nextNumber = s.inc.nextNumber ∧
    s.recomputeEffects.inc.overflow = s.inc.overflow ∧ s.recomputeEffects.inc.notices = s.inc.notices ∧
    s.recomputeEffects.incNotice = s.incNotice ∧ s.recomputeEffects.inc.order = s.inc.order ∧
    s.recomputeEffects.com = s.com ∧ s.recomputeEffects.station = s.station ∧
    s.recomputeEffects.template = s.template ∧ s.recomputeEffects.zone = s.zone ∧
    s.recomputeEffects.arming = s.arming ∧ s.recomputeEffects.fieldPort = s.fieldPort ∧
    s.recomputeEffects.consolePort = s.consolePort := by
  generalize ht : s.recomputeEffects = t
  unfold State.recomputeEffects at ht
  try dsimp only at ht
  (repeat' split at ht) <;> subst ht <;> simp [IncidentUnit.derive]

@[simp] theorem State.holdBeginsFor_keeps (p : Nat) (s : State) (t : Nat) :
    (State.holdBeginsFor p s t).pending = s.pending ∧ (State.holdBeginsFor p s t).resetHeld = s.resetHeld ∧
    (State.holdBeginsFor p s t).event = s.event ∧ (State.holdBeginsFor p s t).hnd = s.hnd ∧
    (State.holdBeginsFor p s t).cls = s.cls ∧ (State.holdBeginsFor p s t).unit = s.unit ∧
    (State.holdBeginsFor p s t).console = s.console ∧ (State.holdBeginsFor p s t).tim = s.tim ∧
    (State.holdBeginsFor p s t).supervision = s.supervision ∧
    (State.holdBeginsFor p s t).reg.notices = s.reg.notices ∧
    (State.holdBeginsFor p s t).trainNotice = s.trainNotice ∧
    (State.holdBeginsFor p s t).reg.outcomes = s.reg.outcomes ∧
    (State.holdBeginsFor p s t).reg.outcomeLoss = s.reg.outcomeLoss ∧
    (State.holdBeginsFor p s t).pow.feeders = s.pow.feeders ∧ (State.holdBeginsFor p s t).feeder = s.feeder ∧
    (State.holdBeginsFor p s t).pow.demand0 = s.pow.demand0 ∧
    (State.holdBeginsFor p s t).pow.demand1 = s.pow.demand1 ∧
    (State.holdBeginsFor p s t).pow.demand2 = s.pow.demand2 ∧
    (State.holdBeginsFor p s t).pow.demand3 = s.pow.demand3 ∧ (State.holdBeginsFor p s t).inc = s.inc ∧
    (State.holdBeginsFor p s t).kind = s.kind ∧ (State.holdBeginsFor p s t).incident = s.incident ∧
    (State.holdBeginsFor p s t).incNotice = s.incNotice ∧ (State.holdBeginsFor p s t).interlocked = s.interlocked ∧
    (State.holdBeginsFor p s t).fraction = s.fraction ∧ (State.holdBeginsFor p s t).platHeld = s.platHeld ∧
    (State.holdBeginsFor p s t).platHeadway = s.platHeadway ∧ (State.holdBeginsFor p s t).com = s.com ∧
    (State.holdBeginsFor p s t).station = s.station ∧ (State.holdBeginsFor p s t).template = s.template ∧
    (State.holdBeginsFor p s t).zone = s.zone ∧ (State.holdBeginsFor p s t).arming = s.arming ∧
    (State.holdBeginsFor p s t).consolePort = s.consolePort := by
  generalize ht : (State.holdBeginsFor p s t) = t
  unfold State.holdBeginsFor at ht
  try dsimp only at ht
  (repeat' split at ht) <;> subst ht <;> simp

@[simp] theorem State.holdBegins_keeps (s : State) (p : Nat) :
    (s.holdBegins p).pending = s.pending ∧ (s.holdBegins p).resetHeld = s.resetHeld ∧
    (s.holdBegins p).event = s.event ∧ (s.holdBegins p).hnd = s.hnd ∧ (s.holdBegins p).cls = s.cls ∧
    (s.holdBegins p).unit = s.unit ∧ (s.holdBegins p).console = s.console ∧ (s.holdBegins p).tim = s.tim ∧
    (s.holdBegins p).supervision = s.supervision ∧ (s.holdBegins p).reg.notices = s.reg.notices ∧
    (s.holdBegins p).trainNotice = s.trainNotice ∧ (s.holdBegins p).reg.outcomes = s.reg.outcomes ∧
    (s.holdBegins p).reg.outcomeLoss = s.reg.outcomeLoss ∧ (s.holdBegins p).pow.feeders = s.pow.feeders ∧
    (s.holdBegins p).feeder = s.feeder ∧ (s.holdBegins p).pow.demand0 = s.pow.demand0 ∧
    (s.holdBegins p).pow.demand1 = s.pow.demand1 ∧ (s.holdBegins p).pow.demand2 = s.pow.demand2 ∧
    (s.holdBegins p).pow.demand3 = s.pow.demand3 ∧ (s.holdBegins p).inc = s.inc ∧ (s.holdBegins p).kind = s.kind ∧
    (s.holdBegins p).incident = s.incident ∧ (s.holdBegins p).incNotice = s.incNotice ∧
    (s.holdBegins p).interlocked = s.interlocked ∧ (s.holdBegins p).fraction = s.fraction ∧
    (s.holdBegins p).platHeld = s.platHeld ∧ (s.holdBegins p).platHeadway = s.platHeadway ∧
    (s.holdBegins p).com = s.com ∧ (s.holdBegins p).station = s.station ∧ (s.holdBegins p).template = s.template ∧
    (s.holdBegins p).zone = s.zone ∧ (s.holdBegins p).arming = s.arming ∧
    (s.holdBegins p).consolePort = s.consolePort := by
  generalize ht : (s.holdBegins p) = t
  unfold State.holdBegins at ht
  try dsimp only at ht
  (repeat' split at ht) <;> subst ht <;> simp

@[simp] theorem State.holdLiftsFor_keeps (p : Nat) (s : State) (t : Nat) :
    (State.holdLiftsFor p s t).pending = s.pending ∧ (State.holdLiftsFor p s t).resetHeld = s.resetHeld ∧
    (State.holdLiftsFor p s t).event = s.event ∧ (State.holdLiftsFor p s t).hnd = s.hnd ∧
    (State.holdLiftsFor p s t).cls = s.cls ∧ (State.holdLiftsFor p s t).unit = s.unit ∧
    (State.holdLiftsFor p s t).console = s.console ∧ (State.holdLiftsFor p s t).tim = s.tim ∧
    (State.holdLiftsFor p s t).supervision = s.supervision ∧
    (State.holdLiftsFor p s t).reg.notices = s.reg.notices ∧
    (State.holdLiftsFor p s t).trainNotice = s.trainNotice ∧
    (State.holdLiftsFor p s t).reg.outcomes = s.reg.outcomes ∧
    (State.holdLiftsFor p s t).reg.outcomeLoss = s.reg.outcomeLoss ∧
    (State.holdLiftsFor p s t).pow.feeders = s.pow.feeders ∧ (State.holdLiftsFor p s t).feeder = s.feeder ∧
    (State.holdLiftsFor p s t).pow.demand0 = s.pow.demand0 ∧
    (State.holdLiftsFor p s t).pow.demand1 = s.pow.demand1 ∧
    (State.holdLiftsFor p s t).pow.demand2 = s.pow.demand2 ∧
    (State.holdLiftsFor p s t).pow.demand3 = s.pow.demand3 ∧ (State.holdLiftsFor p s t).inc = s.inc ∧
    (State.holdLiftsFor p s t).kind = s.kind ∧ (State.holdLiftsFor p s t).incident = s.incident ∧
    (State.holdLiftsFor p s t).incNotice = s.incNotice ∧ (State.holdLiftsFor p s t).interlocked = s.interlocked ∧
    (State.holdLiftsFor p s t).fraction = s.fraction ∧ (State.holdLiftsFor p s t).platHeld = s.platHeld ∧
    (State.holdLiftsFor p s t).platHeadway = s.platHeadway ∧ (State.holdLiftsFor p s t).com = s.com ∧
    (State.holdLiftsFor p s t).station = s.station ∧ (State.holdLiftsFor p s t).template = s.template ∧
    (State.holdLiftsFor p s t).zone = s.zone ∧ (State.holdLiftsFor p s t).arming = s.arming ∧
    (State.holdLiftsFor p s t).consolePort = s.consolePort := by
  generalize ht : (State.holdLiftsFor p s t) = t
  unfold State.holdLiftsFor at ht
  try dsimp only at ht
  (repeat' split at ht) <;> subst ht <;> simp

@[simp] theorem State.holdLifts_keeps (s : State) (p : Nat) :
    (s.holdLifts p).pending = s.pending ∧ (s.holdLifts p).resetHeld = s.resetHeld ∧
    (s.holdLifts p).event = s.event ∧ (s.holdLifts p).hnd = s.hnd ∧ (s.holdLifts p).cls = s.cls ∧
    (s.holdLifts p).unit = s.unit ∧ (s.holdLifts p).console = s.console ∧ (s.holdLifts p).tim = s.tim ∧
    (s.holdLifts p).supervision = s.supervision ∧ (s.holdLifts p).reg.notices = s.reg.notices ∧
    (s.holdLifts p).trainNotice = s.trainNotice ∧ (s.holdLifts p).reg.outcomes = s.reg.outcomes ∧
    (s.holdLifts p).reg.outcomeLoss = s.reg.outcomeLoss ∧ (s.holdLifts p).pow.feeders = s.pow.feeders ∧
    (s.holdLifts p).feeder = s.feeder ∧ (s.holdLifts p).pow.demand0 = s.pow.demand0 ∧
    (s.holdLifts p).pow.demand1 = s.pow.demand1 ∧ (s.holdLifts p).pow.demand2 = s.pow.demand2 ∧
    (s.holdLifts p).pow.demand3 = s.pow.demand3 ∧ (s.holdLifts p).inc = s.inc ∧ (s.holdLifts p).kind = s.kind ∧
    (s.holdLifts p).incident = s.incident ∧ (s.holdLifts p).incNotice = s.incNotice ∧
    (s.holdLifts p).interlocked = s.interlocked ∧ (s.holdLifts p).fraction = s.fraction ∧
    (s.holdLifts p).platHeld = s.platHeld ∧ (s.holdLifts p).platHeadway = s.platHeadway ∧
    (s.holdLifts p).com = s.com ∧ (s.holdLifts p).station = s.station ∧ (s.holdLifts p).template = s.template ∧
    (s.holdLifts p).zone = s.zone ∧ (s.holdLifts p).arming = s.arming ∧ (s.holdLifts p).consolePort = s.consolePort := by
  generalize ht : (s.holdLifts p) = t
  unfold State.holdLifts at ht
  try dsimp only at ht
  (repeat' split at ht) <;> subst ht <;> simp

@[simp] theorem State.interlockBegins_keeps (s : State) (k : Nat) :
    (s.interlockBegins k).pending = s.pending ∧ (s.interlockBegins k).resetHeld = s.resetHeld ∧
    (s.interlockBegins k).event = s.event ∧ (s.interlockBegins k).hnd = s.hnd ∧ (s.interlockBegins k).cls = s.cls ∧
    (s.interlockBegins k).unit = s.unit ∧ (s.interlockBegins k).console = s.console ∧
    (s.interlockBegins k).tim = s.tim ∧ (s.interlockBegins k).supervision = s.supervision ∧
    (s.interlockBegins k).reg.notices = s.reg.notices ∧ (s.interlockBegins k).trainNotice = s.trainNotice ∧
    (s.interlockBegins k).reg.platforms = s.reg.platforms ∧ (s.interlockBegins k).plat = s.plat ∧
    (s.interlockBegins k).reg.outcomes = s.reg.outcomes ∧
    (s.interlockBegins k).reg.outcomeLoss = s.reg.outcomeLoss ∧ (s.interlockBegins k).pow.demand0 = s.pow.demand0 ∧
    (s.interlockBegins k).pow.demand1 = s.pow.demand1 ∧ (s.interlockBegins k).pow.demand2 = s.pow.demand2 ∧
    (s.interlockBegins k).pow.demand3 = s.pow.demand3 ∧ (s.interlockBegins k).inc = s.inc ∧
    (s.interlockBegins k).kind = s.kind ∧ (s.interlockBegins k).incident = s.incident ∧
    (s.interlockBegins k).incNotice = s.incNotice ∧ (s.interlockBegins k).interlocked = s.interlocked ∧
    (s.interlockBegins k).fraction = s.fraction ∧ (s.interlockBegins k).platHeld = s.platHeld ∧
    (s.interlockBegins k).platHeadway = s.platHeadway ∧ (s.interlockBegins k).com = s.com ∧
    (s.interlockBegins k).station = s.station ∧ (s.interlockBegins k).template = s.template ∧
    (s.interlockBegins k).zone = s.zone ∧ (s.interlockBegins k).arming = s.arming := by
  generalize ht : (s.interlockBegins k) = t
  unfold State.interlockBegins at ht
  try dsimp only at ht
  (repeat' split at ht) <;> subst ht <;> simp

@[simp] theorem State.recap_keeps (s : State) (k : Nat) :
    (s.recap k).pending = s.pending ∧ (s.recap k).resetHeld = s.resetHeld ∧ (s.recap k).event = s.event ∧
    (s.recap k).hnd = s.hnd ∧ (s.recap k).cls = s.cls ∧ (s.recap k).unit = s.unit ∧
    (s.recap k).console = s.console ∧ (s.recap k).tim = s.tim ∧ (s.recap k).supervision = s.supervision ∧
    (s.recap k).reg.notices = s.reg.notices ∧ (s.recap k).trainNotice = s.trainNotice ∧
    (s.recap k).reg.outcomes = s.reg.outcomes ∧ (s.recap k).reg.outcomeLoss = s.reg.outcomeLoss ∧
    (s.recap k).pow.feeders = s.pow.feeders ∧ (s.recap k).feeder = s.feeder ∧
    (s.recap k).pow.demand0 = s.pow.demand0 ∧ (s.recap k).pow.demand1 = s.pow.demand1 ∧
    (s.recap k).pow.demand2 = s.pow.demand2 ∧ (s.recap k).pow.demand3 = s.pow.demand3 ∧ (s.recap k).inc = s.inc ∧
    (s.recap k).kind = s.kind ∧ (s.recap k).incident = s.incident ∧ (s.recap k).incNotice = s.incNotice ∧
    (s.recap k).interlocked = s.interlocked ∧ (s.recap k).fraction = s.fraction ∧
    (s.recap k).platHeld = s.platHeld ∧ (s.recap k).platHeadway = s.platHeadway ∧ (s.recap k).com = s.com ∧
    (s.recap k).station = s.station ∧ (s.recap k).template = s.template ∧ (s.recap k).zone = s.zone ∧
    (s.recap k).arming = s.arming ∧ (s.recap k).consolePort = s.consolePort := by
  generalize ht : (s.recap k) = t
  unfold State.recap at ht
  try dsimp only at ht
  (repeat' split at ht) <;> subst ht <;> simp

@[simp] theorem State.lockEffect_keeps (s : State) (v : Incident) (e : Effect) :
    (s.lockEffect v e).pending = s.pending ∧ (s.lockEffect v e).resetHeld = s.resetHeld ∧
    (s.lockEffect v e).event = s.event ∧ (s.lockEffect v e).hnd = s.hnd ∧ (s.lockEffect v e).cls = s.cls ∧
    (s.lockEffect v e).unit = s.unit ∧ (s.lockEffect v e).console = s.console ∧ (s.lockEffect v e).tim = s.tim ∧
    (s.lockEffect v e).supervision = s.supervision ∧ (s.lockEffect v e).reg = s.reg ∧
    (s.lockEffect v e).slot = s.slot ∧ (s.lockEffect v e).trainNotice = s.trainNotice ∧
    (s.lockEffect v e).plat = s.plat ∧ (s.lockEffect v e).pow = s.pow ∧ (s.lockEffect v e).feeder = s.feeder ∧
    (s.lockEffect v e).sect = s.sect ∧ (s.lockEffect v e).pool = s.pool ∧ (s.lockEffect v e).inc = s.inc ∧
    (s.lockEffect v e).kind = s.kind ∧ (s.lockEffect v e).incident = s.incident ∧
    (s.lockEffect v e).incNotice = s.incNotice ∧ (s.lockEffect v e).interlocked = s.interlocked ∧
    (s.lockEffect v e).fraction = s.fraction ∧ (s.lockEffect v e).platHeld = s.platHeld ∧
    (s.lockEffect v e).platHeadway = s.platHeadway ∧ (s.lockEffect v e).com.stations = s.com.stations ∧
    (s.lockEffect v e).station = s.station ∧ (s.lockEffect v e).com.templates = s.com.templates ∧
    (s.lockEffect v e).template = s.template ∧ (s.lockEffect v e).com.armings = s.com.armings ∧
    (s.lockEffect v e).arming = s.arming ∧ (s.lockEffect v e).com.zoneDrops = s.com.zoneDrops := by
  generalize ht : (s.lockEffect v e) = t
  unfold State.lockEffect at ht
  try dsimp only at ht
  (repeat' split at ht) <;> subst ht <;> simp

@[simp] theorem State.announceEffect_keeps (v : Incident) (s : State) (e : Effect) :
    (State.announceEffect v s e).pending = s.pending ∧ (State.announceEffect v s e).resetHeld = s.resetHeld ∧
    (State.announceEffect v s e).event = s.event ∧ (State.announceEffect v s e).hnd = s.hnd ∧
    (State.announceEffect v s e).cls = s.cls ∧ (State.announceEffect v s e).unit = s.unit ∧
    (State.announceEffect v s e).console = s.console ∧ (State.announceEffect v s e).tim = s.tim ∧
    (State.announceEffect v s e).supervision = s.supervision ∧ (State.announceEffect v s e).reg = s.reg ∧
    (State.announceEffect v s e).slot = s.slot ∧ (State.announceEffect v s e).trainNotice = s.trainNotice ∧
    (State.announceEffect v s e).plat = s.plat ∧ (State.announceEffect v s e).pow = s.pow ∧
    (State.announceEffect v s e).feeder = s.feeder ∧ (State.announceEffect v s e).sect = s.sect ∧
    (State.announceEffect v s e).pool = s.pool ∧ (State.announceEffect v s e).inc = s.inc ∧
    (State.announceEffect v s e).kind = s.kind ∧ (State.announceEffect v s e).incident = s.incident ∧
    (State.announceEffect v s e).incNotice = s.incNotice ∧
    (State.announceEffect v s e).interlocked = s.interlocked ∧ (State.announceEffect v s e).fraction = s.fraction ∧
    (State.announceEffect v s e).platHeld = s.platHeld ∧ (State.announceEffect v s e).platHeadway = s.platHeadway ∧
    (State.announceEffect v s e).com.stations = s.com.stations ∧ (State.announceEffect v s e).station = s.station ∧
    (State.announceEffect v s e).com.templates = s.com.templates ∧
    (State.announceEffect v s e).template = s.template ∧ (State.announceEffect v s e).com.armings = s.com.armings ∧
    (State.announceEffect v s e).arming = s.arming := by
  generalize ht : (State.announceEffect v s e) = t
  unfold State.announceEffect at ht
  try dsimp only at ht
  (repeat' split at ht) <;> subst ht <;> simp

@[simp] theorem State.handRaise_keeps (s : State) (b : State) (v : Incident) :
    (s.handRaise b v).pending = s.pending ∧ (s.handRaise b v).resetHeld = s.resetHeld ∧
    (s.handRaise b v).event = s.event ∧ (s.handRaise b v).hnd = s.hnd ∧ (s.handRaise b v).cls = s.cls ∧
    (s.handRaise b v).unit = s.unit ∧ (s.handRaise b v).console = s.console ∧ (s.handRaise b v).tim = s.tim ∧
    (s.handRaise b v).supervision = s.supervision ∧ (s.handRaise b v).reg.notices = s.reg.notices ∧
    (s.handRaise b v).trainNotice = s.trainNotice ∧ (s.handRaise b v).reg.outcomes = s.reg.outcomes ∧
    (s.handRaise b v).reg.outcomeLoss = s.reg.outcomeLoss ∧ (s.handRaise b v).pow.demand0 = s.pow.demand0 ∧
    (s.handRaise b v).pow.demand1 = s.pow.demand1 ∧ (s.handRaise b v).pow.demand2 = s.pow.demand2 ∧
    (s.handRaise b v).pow.demand3 = s.pow.demand3 ∧ (s.handRaise b v).inc = s.inc ∧
    (s.handRaise b v).kind = s.kind ∧ (s.handRaise b v).incident = s.incident ∧
    (s.handRaise b v).incNotice = s.incNotice ∧ (s.handRaise b v).interlocked = s.interlocked ∧
    (s.handRaise b v).fraction = s.fraction ∧ (s.handRaise b v).platHeld = s.platHeld ∧
    (s.handRaise b v).platHeadway = s.platHeadway ∧ (s.handRaise b v).com.stations = s.com.stations ∧
    (s.handRaise b v).station = s.station ∧ (s.handRaise b v).com.templates = s.com.templates ∧
    (s.handRaise b v).template = s.template ∧ (s.handRaise b v).com.armings = s.com.armings ∧
    (s.handRaise b v).arming = s.arming := by
  generalize ht : (s.handRaise b v) = t
  unfold State.handRaise at ht
  try dsimp only at ht
  (repeat' split at ht) <;> subst ht <;> simp

@[simp] theorem State.withdrawFrom_keeps (n : Nat) (s : State) (k : Nat) :
    (State.withdrawFrom n s k).pending = s.pending ∧ (State.withdrawFrom n s k).resetHeld = s.resetHeld ∧
    (State.withdrawFrom n s k).event = s.event ∧ (State.withdrawFrom n s k).hnd = s.hnd ∧
    (State.withdrawFrom n s k).cls = s.cls ∧ (State.withdrawFrom n s k).unit = s.unit ∧
    (State.withdrawFrom n s k).console = s.console ∧ (State.withdrawFrom n s k).tim = s.tim ∧
    (State.withdrawFrom n s k).supervision = s.supervision ∧ (State.withdrawFrom n s k).reg = s.reg ∧
    (State.withdrawFrom n s k).slot = s.slot ∧ (State.withdrawFrom n s k).trainNotice = s.trainNotice ∧
    (State.withdrawFrom n s k).plat = s.plat ∧ (State.withdrawFrom n s k).pow = s.pow ∧
    (State.withdrawFrom n s k).feeder = s.feeder ∧ (State.withdrawFrom n s k).sect = s.sect ∧
    (State.withdrawFrom n s k).pool = s.pool ∧ (State.withdrawFrom n s k).inc = s.inc ∧
    (State.withdrawFrom n s k).kind = s.kind ∧ (State.withdrawFrom n s k).incident = s.incident ∧
    (State.withdrawFrom n s k).incNotice = s.incNotice ∧ (State.withdrawFrom n s k).interlocked = s.interlocked ∧
    (State.withdrawFrom n s k).fraction = s.fraction ∧ (State.withdrawFrom n s k).platHeld = s.platHeld ∧
    (State.withdrawFrom n s k).platHeadway = s.platHeadway ∧
    (State.withdrawFrom n s k).com.stations = s.com.stations ∧ (State.withdrawFrom n s k).station = s.station ∧
    (State.withdrawFrom n s k).com.templates = s.com.templates ∧ (State.withdrawFrom n s k).template = s.template ∧
    (State.withdrawFrom n s k).com.armings = s.com.armings ∧ (State.withdrawFrom n s k).arming = s.arming ∧
    (State.withdrawFrom n s k).com.zoneDrops = s.com.zoneDrops := by
  generalize ht : (State.withdrawFrom n s k) = t
  unfold State.withdrawFrom at ht
  try dsimp only at ht
  (repeat' split at ht) <;> subst ht <;> simp

@[simp] theorem State.announceClear_keeps (s : State) (v : Incident) :
    (s.announceClear v).pending = s.pending ∧ (s.announceClear v).resetHeld = s.resetHeld ∧
    (s.announceClear v).event = s.event ∧ (s.announceClear v).hnd = s.hnd ∧ (s.announceClear v).cls = s.cls ∧
    (s.announceClear v).unit = s.unit ∧ (s.announceClear v).console = s.console ∧ (s.announceClear v).tim = s.tim ∧
    (s.announceClear v).supervision = s.supervision ∧ (s.announceClear v).reg = s.reg ∧
    (s.announceClear v).slot = s.slot ∧ (s.announceClear v).trainNotice = s.trainNotice ∧
    (s.announceClear v).plat = s.plat ∧ (s.announceClear v).pow = s.pow ∧ (s.announceClear v).feeder = s.feeder ∧
    (s.announceClear v).sect = s.sect ∧ (s.announceClear v).pool = s.pool ∧ (s.announceClear v).inc = s.inc ∧
    (s.announceClear v).kind = s.kind ∧ (s.announceClear v).incident = s.incident ∧
    (s.announceClear v).incNotice = s.incNotice ∧ (s.announceClear v).interlocked = s.interlocked ∧
    (s.announceClear v).fraction = s.fraction ∧ (s.announceClear v).platHeld = s.platHeld ∧
    (s.announceClear v).platHeadway = s.platHeadway ∧ (s.announceClear v).com.stations = s.com.stations ∧
    (s.announceClear v).station = s.station ∧ (s.announceClear v).com.templates = s.com.templates ∧
    (s.announceClear v).template = s.template ∧ (s.announceClear v).com.armings = s.com.armings ∧
    (s.announceClear v).arming = s.arming := by
  generalize ht : (s.announceClear v) = t
  unfold State.announceClear at ht
  try dsimp only at ht
  (repeat' split at ht) <;> subst ht <;> simp

@[simp] theorem State.handClear_keeps (s : State) (b : State) (v : Incident) :
    (s.handClear b v).pending = s.pending ∧ (s.handClear b v).resetHeld = s.resetHeld ∧
    (s.handClear b v).event = s.event ∧ (s.handClear b v).hnd = s.hnd ∧ (s.handClear b v).cls = s.cls ∧
    (s.handClear b v).unit = s.unit ∧ (s.handClear b v).console = s.console ∧ (s.handClear b v).tim = s.tim ∧
    (s.handClear b v).supervision = s.supervision ∧ (s.handClear b v).reg.notices = s.reg.notices ∧
    (s.handClear b v).trainNotice = s.trainNotice ∧ (s.handClear b v).reg.outcomes = s.reg.outcomes ∧
    (s.handClear b v).reg.outcomeLoss = s.reg.outcomeLoss ∧ (s.handClear b v).pow.demand0 = s.pow.demand0 ∧
    (s.handClear b v).pow.demand1 = s.pow.demand1 ∧ (s.handClear b v).pow.demand2 = s.pow.demand2 ∧
    (s.handClear b v).pow.demand3 = s.pow.demand3 ∧ (s.handClear b v).inc = s.inc ∧
    (s.handClear b v).kind = s.kind ∧ (s.handClear b v).incident = s.incident ∧
    (s.handClear b v).incNotice = s.incNotice ∧ (s.handClear b v).interlocked = s.interlocked ∧
    (s.handClear b v).fraction = s.fraction ∧ (s.handClear b v).platHeld = s.platHeld ∧
    (s.handClear b v).platHeadway = s.platHeadway ∧ (s.handClear b v).com.stations = s.com.stations ∧
    (s.handClear b v).station = s.station ∧ (s.handClear b v).com.templates = s.com.templates ∧
    (s.handClear b v).template = s.template ∧ (s.handClear b v).com.armings = s.com.armings ∧
    (s.handClear b v).arming = s.arming := by
  generalize ht : (s.handClear b v) = t
  unfold State.handClear at ht
  try dsimp only at ht
  (repeat' split at ht) <;> subst ht <;> simp

@[simp] theorem State.freeEntry_keeps (s : State) (i : Nat) :
    (s.freeEntry i).pending = s.pending ∧ (s.freeEntry i).resetHeld = s.resetHeld ∧
    (s.freeEntry i).event = s.event ∧ (s.freeEntry i).hnd = s.hnd ∧ (s.freeEntry i).cls = s.cls ∧
    (s.freeEntry i).unit = s.unit ∧ (s.freeEntry i).console = s.console ∧ (s.freeEntry i).tim = s.tim ∧
    (s.freeEntry i).supervision = s.supervision ∧ (s.freeEntry i).reg = s.reg ∧ (s.freeEntry i).slot = s.slot ∧
    (s.freeEntry i).trainNotice = s.trainNotice ∧ (s.freeEntry i).plat = s.plat ∧ (s.freeEntry i).pow = s.pow ∧
    (s.freeEntry i).feeder = s.feeder ∧ (s.freeEntry i).sect = s.sect ∧ (s.freeEntry i).pool = s.pool ∧
    (s.freeEntry i).inc.kinds = s.inc.kinds ∧ (s.freeEntry i).kind = s.kind ∧
    (s.freeEntry i).inc.nextNumber = s.inc.nextNumber ∧ (s.freeEntry i).inc.overflow = s.inc.overflow ∧
    (s.freeEntry i).inc.notices = s.inc.notices ∧ (s.freeEntry i).incNotice = s.incNotice ∧
    (s.freeEntry i).inc.order = s.inc.order ∧ (s.freeEntry i).inc.interlock = s.inc.interlock ∧
    (s.freeEntry i).interlocked = s.interlocked ∧ (s.freeEntry i).inc.fraction = s.inc.fraction ∧
    (s.freeEntry i).fraction = s.fraction ∧ (s.freeEntry i).inc.held = s.inc.held ∧
    (s.freeEntry i).platHeld = s.platHeld ∧ (s.freeEntry i).inc.headway = s.inc.headway ∧
    (s.freeEntry i).platHeadway = s.platHeadway ∧ (s.freeEntry i).com = s.com ∧
    (s.freeEntry i).station = s.station ∧ (s.freeEntry i).template = s.template ∧ (s.freeEntry i).zone = s.zone ∧
    (s.freeEntry i).arming = s.arming ∧ (s.freeEntry i).fieldPort = s.fieldPort ∧
    (s.freeEntry i).consolePort = s.consolePort := by
  generalize ht : (s.freeEntry i) = t
  unfold State.freeEntry at ht
  try dsimp only at ht
  (repeat' split at ht) <;> subst ht <;> simp

theorem State.takeEntry_keeps {s s' : State} {i : Nat} (h : s.takeEntry = some (s', i)) :
    s'.pending = s.pending ∧ s'.resetHeld = s.resetHeld ∧ s'.event = s.event ∧ s'.hnd = s.hnd ∧ s'.cls = s.cls ∧
    s'.unit = s.unit ∧ s'.console = s.console ∧ s'.tim = s.tim ∧ s'.supervision = s.supervision ∧ s'.reg = s.reg ∧
    s'.slot = s.slot ∧ s'.trainNotice = s.trainNotice ∧ s'.plat = s.plat ∧ s'.pow = s.pow ∧ s'.feeder = s.feeder ∧
    s'.sect = s.sect ∧ s'.pool = s.pool ∧ s'.inc.kinds = s.inc.kinds ∧ s'.kind = s.kind ∧
    s'.inc.nextNumber = s.inc.nextNumber ∧ s'.inc.overflow = s.inc.overflow ∧ s'.inc.interlock = s.inc.interlock ∧
    s'.interlocked = s.interlocked ∧ s'.inc.fraction = s.inc.fraction ∧ s'.fraction = s.fraction ∧
    s'.inc.held = s.inc.held ∧ s'.platHeld = s.platHeld ∧ s'.inc.headway = s.inc.headway ∧
    s'.platHeadway = s.platHeadway ∧ s'.com = s.com ∧ s'.station = s.station ∧ s'.template = s.template ∧
    s'.zone = s.zone ∧ s'.arming = s.arming ∧ s'.fieldPort = s.fieldPort := by
  simp only [State.takeEntry] at h
  (repeat' split at h) <;> simp only [Option.some.injEq, Prod.mk.injEq, reduceCtorEq, false_and] at h <;>
    obtain ⟨rfl, -⟩ := h <;> simp

@[simp] theorem State.raiseIncident_keeps (s : State) (k : Nat) (l : Location) (r : Raiser) (sv : Option Nat) (ts : List EffectTemplate) :
    (s.raiseIncident k l r sv ts).1.pending = s.pending ∧ (s.raiseIncident k l r sv ts).1.resetHeld = s.resetHeld ∧
    (s.raiseIncident k l r sv ts).1.event = s.event ∧ (s.raiseIncident k l r sv ts).1.hnd = s.hnd ∧
    (s.raiseIncident k l r sv ts).1.cls = s.cls ∧ (s.raiseIncident k l r sv ts).1.unit = s.unit ∧
    (s.raiseIncident k l r sv ts).1.console = s.console ∧ (s.raiseIncident k l r sv ts).1.tim = s.tim ∧
    (s.raiseIncident k l r sv ts).1.supervision = s.supervision ∧
    (s.raiseIncident k l r sv ts).1.reg.notices = s.reg.notices ∧
    (s.raiseIncident k l r sv ts).1.trainNotice = s.trainNotice ∧
    (s.raiseIncident k l r sv ts).1.reg.outcomes = s.reg.outcomes ∧
    (s.raiseIncident k l r sv ts).1.reg.outcomeLoss = s.reg.outcomeLoss ∧
    (s.raiseIncident k l r sv ts).1.pow.demand0 = s.pow.demand0 ∧
    (s.raiseIncident k l r sv ts).1.pow.demand1 = s.pow.demand1 ∧
    (s.raiseIncident k l r sv ts).1.pow.demand2 = s.pow.demand2 ∧
    (s.raiseIncident k l r sv ts).1.pow.demand3 = s.pow.demand3 ∧
    (s.raiseIncident k l r sv ts).1.inc.kinds = s.inc.kinds ∧ (s.raiseIncident k l r sv ts).1.kind = s.kind ∧
    (s.raiseIncident k l r sv ts).1.inc.overflow = s.inc.overflow ∧
    (s.raiseIncident k l r sv ts).1.com.stations = s.com.stations ∧
    (s.raiseIncident k l r sv ts).1.station = s.station ∧
    (s.raiseIncident k l r sv ts).1.com.templates = s.com.templates ∧
    (s.raiseIncident k l r sv ts).1.template = s.template ∧
    (s.raiseIncident k l r sv ts).1.com.armings = s.com.armings ∧ (s.raiseIncident k l r sv ts).1.arming = s.arming := by
  generalize ht : (s.raiseIncident k l r sv ts).1 = t
  unfold State.raiseIncident at ht
  dsimp only at ht
  split at ht
  · split at ht <;> subst ht <;> simp
  · split at ht
    · subst ht; simp
    · rename_i h
      have := State.takeEntry_keeps h
      subst ht
      simp_all

@[simp] theorem State.raiseOwn_keeps (s : State) (k : Nat) (l : Location) (r : Raiser) :
    (s.raiseOwn k l r).pending = s.pending ∧ (s.raiseOwn k l r).resetHeld = s.resetHeld ∧
    (s.raiseOwn k l r).event = s.event ∧ (s.raiseOwn k l r).hnd = s.hnd ∧ (s.raiseOwn k l r).cls = s.cls ∧
    (s.raiseOwn k l r).unit = s.unit ∧ (s.raiseOwn k l r).console = s.console ∧ (s.raiseOwn k l r).tim = s.tim ∧
    (s.raiseOwn k l r).supervision = s.supervision ∧ (s.raiseOwn k l r).reg.notices = s.reg.notices ∧
    (s.raiseOwn k l r).trainNotice = s.trainNotice ∧ (s.raiseOwn k l r).reg.outcomes = s.reg.outcomes ∧
    (s.raiseOwn k l r).reg.outcomeLoss = s.reg.outcomeLoss ∧ (s.raiseOwn k l r).pow.demand0 = s.pow.demand0 ∧
    (s.raiseOwn k l r).pow.demand1 = s.pow.demand1 ∧ (s.raiseOwn k l r).pow.demand2 = s.pow.demand2 ∧
    (s.raiseOwn k l r).pow.demand3 = s.pow.demand3 ∧ (s.raiseOwn k l r).inc.kinds = s.inc.kinds ∧
    (s.raiseOwn k l r).kind = s.kind ∧ (s.raiseOwn k l r).com.stations = s.com.stations ∧
    (s.raiseOwn k l r).station = s.station ∧ (s.raiseOwn k l r).com.templates = s.com.templates ∧
    (s.raiseOwn k l r).template = s.template ∧ (s.raiseOwn k l r).com.armings = s.com.armings ∧
    (s.raiseOwn k l r).arming = s.arming := by
  unfold State.raiseOwn
  have h := State.raiseIncident_keeps s k l r none []
  (repeat' split) <;> simp_all

@[simp] theorem State.clearEntry_keeps (s : State) (i : Nat) (v : Incident) :
    (s.clearEntry i v).pending = s.pending ∧ (s.clearEntry i v).resetHeld = s.resetHeld ∧
    (s.clearEntry i v).event = s.event ∧ (s.clearEntry i v).hnd = s.hnd ∧ (s.clearEntry i v).cls = s.cls ∧
    (s.clearEntry i v).unit = s.unit ∧ (s.clearEntry i v).console = s.console ∧ (s.clearEntry i v).tim = s.tim ∧
    (s.clearEntry i v).supervision = s.supervision ∧ (s.clearEntry i v).reg.notices = s.reg.notices ∧
    (s.clearEntry i v).trainNotice = s.trainNotice ∧ (s.clearEntry i v).reg.outcomes = s.reg.outcomes ∧
    (s.clearEntry i v).reg.outcomeLoss = s.reg.outcomeLoss ∧ (s.clearEntry i v).pow.demand0 = s.pow.demand0 ∧
    (s.clearEntry i v).pow.demand1 = s.pow.demand1 ∧ (s.clearEntry i v).pow.demand2 = s.pow.demand2 ∧
    (s.clearEntry i v).pow.demand3 = s.pow.demand3 ∧ (s.clearEntry i v).inc.kinds = s.inc.kinds ∧
    (s.clearEntry i v).kind = s.kind ∧ (s.clearEntry i v).inc.overflow = s.inc.overflow ∧
    (s.clearEntry i v).com.stations = s.com.stations ∧ (s.clearEntry i v).station = s.station ∧
    (s.clearEntry i v).com.templates = s.com.templates ∧ (s.clearEntry i v).template = s.template ∧
    (s.clearEntry i v).com.armings = s.com.armings ∧ (s.clearEntry i v).arming = s.arming := by
  generalize ht : (s.clearEntry i v) = t
  unfold State.clearEntry at ht
  try dsimp only at ht
  (repeat' split at ht) <;> subst ht <;> simp

@[simp] theorem State.selfClear_keeps (s : State) (k : Nat) (l : Location) :
    (s.selfClear k l).pending = s.pending ∧ (s.selfClear k l).resetHeld = s.resetHeld ∧
    (s.selfClear k l).event = s.event ∧ (s.selfClear k l).hnd = s.hnd ∧ (s.selfClear k l).cls = s.cls ∧
    (s.selfClear k l).unit = s.unit ∧ (s.selfClear k l).console = s.console ∧ (s.selfClear k l).tim = s.tim ∧
    (s.selfClear k l).supervision = s.supervision ∧ (s.selfClear k l).reg.notices = s.reg.notices ∧
    (s.selfClear k l).trainNotice = s.trainNotice ∧ (s.selfClear k l).reg.outcomes = s.reg.outcomes ∧
    (s.selfClear k l).reg.outcomeLoss = s.reg.outcomeLoss ∧ (s.selfClear k l).pow.demand0 = s.pow.demand0 ∧
    (s.selfClear k l).pow.demand1 = s.pow.demand1 ∧ (s.selfClear k l).pow.demand2 = s.pow.demand2 ∧
    (s.selfClear k l).pow.demand3 = s.pow.demand3 ∧ (s.selfClear k l).inc.kinds = s.inc.kinds ∧
    (s.selfClear k l).kind = s.kind ∧ (s.selfClear k l).inc.overflow = s.inc.overflow ∧
    (s.selfClear k l).com.stations = s.com.stations ∧ (s.selfClear k l).station = s.station ∧
    (s.selfClear k l).com.templates = s.com.templates ∧ (s.selfClear k l).template = s.template ∧
    (s.selfClear k l).com.armings = s.com.armings ∧ (s.selfClear k l).arming = s.arming := by
  generalize ht : (s.selfClear k l) = t
  unfold State.selfClear at ht
  try dsimp only at ht
  (repeat' split at ht) <;> subst ht <;> simp

@[simp] theorem State.acknowledge_keeps (s : State) (i e : Nat) (v : Incident) :
    (s.acknowledge i e v).1.pending = s.pending ∧ (s.acknowledge i e v).1.resetHeld = s.resetHeld ∧
    (s.acknowledge i e v).1.event = s.event ∧ (s.acknowledge i e v).1.hnd = s.hnd ∧
    (s.acknowledge i e v).1.cls = s.cls ∧ (s.acknowledge i e v).1.unit = s.unit ∧
    (s.acknowledge i e v).1.console = s.console ∧ (s.acknowledge i e v).1.tim = s.tim ∧
    (s.acknowledge i e v).1.supervision = s.supervision ∧ (s.acknowledge i e v).1.reg = s.reg ∧
    (s.acknowledge i e v).1.slot = s.slot ∧ (s.acknowledge i e v).1.trainNotice = s.trainNotice ∧
    (s.acknowledge i e v).1.plat = s.plat ∧ (s.acknowledge i e v).1.pow = s.pow ∧
    (s.acknowledge i e v).1.feeder = s.feeder ∧ (s.acknowledge i e v).1.sect = s.sect ∧
    (s.acknowledge i e v).1.pool = s.pool ∧ (s.acknowledge i e v).1.inc.kinds = s.inc.kinds ∧
    (s.acknowledge i e v).1.kind = s.kind ∧ (s.acknowledge i e v).1.inc.nextNumber = s.inc.nextNumber ∧
    (s.acknowledge i e v).1.inc.overflow = s.inc.overflow ∧
    (s.acknowledge i e v).1.inc.interlock = s.inc.interlock ∧ (s.acknowledge i e v).1.interlocked = s.interlocked ∧
    (s.acknowledge i e v).1.inc.fraction = s.inc.fraction ∧ (s.acknowledge i e v).1.fraction = s.fraction ∧
    (s.acknowledge i e v).1.inc.held = s.inc.held ∧ (s.acknowledge i e v).1.platHeld = s.platHeld ∧
    (s.acknowledge i e v).1.inc.headway = s.inc.headway ∧ (s.acknowledge i e v).1.platHeadway = s.platHeadway ∧
    (s.acknowledge i e v).1.com = s.com ∧ (s.acknowledge i e v).1.station = s.station ∧
    (s.acknowledge i e v).1.template = s.template ∧ (s.acknowledge i e v).1.zone = s.zone ∧
    (s.acknowledge i e v).1.arming = s.arming ∧ (s.acknowledge i e v).1.fieldPort = s.fieldPort := by
  generalize ht : (s.acknowledge i e v).1 = t
  unfold State.acknowledge at ht
  try dsimp only at ht
  (repeat' split at ht) <;> subst ht <;> simp

@[simp] theorem State.escalate_keeps (s : State) (i : Nat) (v : Incident) :
    (s.escalate i v).pending = s.pending ∧ (s.escalate i v).resetHeld = s.resetHeld ∧
    (s.escalate i v).event = s.event ∧ (s.escalate i v).hnd = s.hnd ∧ (s.escalate i v).cls = s.cls ∧
    (s.escalate i v).unit = s.unit ∧ (s.escalate i v).console = s.console ∧ (s.escalate i v).tim = s.tim ∧
    (s.escalate i v).supervision = s.supervision ∧ (s.escalate i v).reg = s.reg ∧ (s.escalate i v).slot = s.slot ∧
    (s.escalate i v).trainNotice = s.trainNotice ∧ (s.escalate i v).plat = s.plat ∧ (s.escalate i v).pow = s.pow ∧
    (s.escalate i v).feeder = s.feeder ∧ (s.escalate i v).sect = s.sect ∧ (s.escalate i v).pool = s.pool ∧
    (s.escalate i v).inc.kinds = s.inc.kinds ∧ (s.escalate i v).kind = s.kind ∧
    (s.escalate i v).inc.cleared = s.inc.cleared ∧ (s.escalate i v).inc.nextNumber = s.inc.nextNumber ∧
    (s.escalate i v).inc.overflow = s.inc.overflow ∧ (s.escalate i v).inc.interlock = s.inc.interlock ∧
    (s.escalate i v).interlocked = s.interlocked ∧ (s.escalate i v).inc.fraction = s.inc.fraction ∧
    (s.escalate i v).fraction = s.fraction ∧ (s.escalate i v).inc.held = s.inc.held ∧
    (s.escalate i v).platHeld = s.platHeld ∧ (s.escalate i v).inc.headway = s.inc.headway ∧
    (s.escalate i v).platHeadway = s.platHeadway ∧ (s.escalate i v).com = s.com ∧
    (s.escalate i v).station = s.station ∧ (s.escalate i v).template = s.template ∧
    (s.escalate i v).zone = s.zone ∧ (s.escalate i v).arming = s.arming ∧ (s.escalate i v).fieldPort = s.fieldPort := by
  generalize ht : (s.escalate i v) = t
  unfold State.escalate at ht
  try dsimp only at ht
  (repeat' split at ht) <;> subst ht <;> simp

@[simp] theorem State.retakeFor_keeps  (s : State) (i : Nat) :
    (State.retakeFor  s i).pending = s.pending ∧ (State.retakeFor  s i).resetHeld = s.resetHeld ∧
    (State.retakeFor  s i).event = s.event ∧ (State.retakeFor  s i).hnd = s.hnd ∧
    (State.retakeFor  s i).cls = s.cls ∧ (State.retakeFor  s i).unit = s.unit ∧
    (State.retakeFor  s i).console = s.console ∧ (State.retakeFor  s i).tim = s.tim ∧
    (State.retakeFor  s i).supervision = s.supervision ∧ (State.retakeFor  s i).reg = s.reg ∧
    (State.retakeFor  s i).slot = s.slot ∧ (State.retakeFor  s i).trainNotice = s.trainNotice ∧
    (State.retakeFor  s i).plat = s.plat ∧ (State.retakeFor  s i).pow = s.pow ∧
    (State.retakeFor  s i).feeder = s.feeder ∧ (State.retakeFor  s i).sect = s.sect ∧
    (State.retakeFor  s i).pool = s.pool ∧ (State.retakeFor  s i).inc = s.inc ∧
    (State.retakeFor  s i).kind = s.kind ∧ (State.retakeFor  s i).incident = s.incident ∧
    (State.retakeFor  s i).incNotice = s.incNotice ∧ (State.retakeFor  s i).interlocked = s.interlocked ∧
    (State.retakeFor  s i).fraction = s.fraction ∧ (State.retakeFor  s i).platHeld = s.platHeld ∧
    (State.retakeFor  s i).platHeadway = s.platHeadway ∧ (State.retakeFor  s i).com.stations = s.com.stations ∧
    (State.retakeFor  s i).station = s.station ∧ (State.retakeFor  s i).com.templates = s.com.templates ∧
    (State.retakeFor  s i).template = s.template ∧ (State.retakeFor  s i).com.armings = s.com.armings ∧
    (State.retakeFor  s i).arming = s.arming ∧ (State.retakeFor  s i).com.zoneDrops = s.com.zoneDrops := by
  generalize ht : (State.retakeFor  s i) = t
  unfold State.retakeFor at ht
  try dsimp only at ht
  (repeat' split at ht) <;> subst ht <;> simp

@[simp] theorem State.retakeLocks_keeps (s : State) :
    s.retakeLocks.pending = s.pending ∧ s.retakeLocks.resetHeld = s.resetHeld ∧ s.retakeLocks.event = s.event ∧
    s.retakeLocks.hnd = s.hnd ∧ s.retakeLocks.cls = s.cls ∧ s.retakeLocks.unit = s.unit ∧
    s.retakeLocks.console = s.console ∧ s.retakeLocks.tim = s.tim ∧ s.retakeLocks.supervision = s.supervision ∧
    s.retakeLocks.reg = s.reg ∧ s.retakeLocks.slot = s.slot ∧ s.retakeLocks.trainNotice = s.trainNotice ∧
    s.retakeLocks.plat = s.plat ∧ s.retakeLocks.pow = s.pow ∧ s.retakeLocks.feeder = s.feeder ∧
    s.retakeLocks.sect = s.sect ∧ s.retakeLocks.pool = s.pool ∧ s.retakeLocks.inc = s.inc ∧
    s.retakeLocks.kind = s.kind ∧ s.retakeLocks.incident = s.incident ∧ s.retakeLocks.incNotice = s.incNotice ∧
    s.retakeLocks.interlocked = s.interlocked ∧ s.retakeLocks.fraction = s.fraction ∧
    s.retakeLocks.platHeld = s.platHeld ∧ s.retakeLocks.platHeadway = s.platHeadway ∧
    s.retakeLocks.com.stations = s.com.stations ∧ s.retakeLocks.station = s.station ∧
    s.retakeLocks.com.templates = s.com.templates ∧ s.retakeLocks.template = s.template ∧
    s.retakeLocks.com.armings = s.com.armings ∧ s.retakeLocks.arming = s.arming ∧
    s.retakeLocks.com.zoneDrops = s.com.zoneDrops := by
  generalize ht : s.retakeLocks = t
  unfold State.retakeLocks at ht
  try dsimp only at ht
  (repeat' split at ht) <;> subst ht <;> simp

/-! ## Regulator -/

theorem State.retireHead_keeps {s s' : State} {p : Nat} (h : s.retireHead p = some s') :
    s'.pending = s.pending ∧ s'.resetHeld = s.resetHeld ∧ s'.event = s.event ∧ s'.hnd = s.hnd ∧ s'.cls = s.cls ∧
    s'.unit = s.unit ∧ s'.console = s.console ∧ s'.tim = s.tim ∧ s'.supervision = s.supervision ∧
    s'.reg.trains = s.reg.trains ∧ s'.slot = s.slot ∧ s'.reg.notices = s.reg.notices ∧
    s'.trainNotice = s.trainNotice ∧ s'.pow = s.pow ∧ s'.feeder = s.feeder ∧ s'.sect = s.sect ∧ s'.pool = s.pool ∧
    s'.inc = s.inc ∧ s'.kind = s.kind ∧ s'.incident = s.incident ∧ s'.incNotice = s.incNotice ∧
    s'.interlocked = s.interlocked ∧ s'.fraction = s.fraction ∧ s'.platHeld = s.platHeld ∧
    s'.platHeadway = s.platHeadway ∧ s'.com = s.com ∧ s'.station = s.station ∧ s'.template = s.template ∧
    s'.zone = s.zone ∧ s'.arming = s.arming ∧ s'.fieldPort = s.fieldPort ∧ s'.consolePort = s.consolePort := by
  simp only [State.retireHead] at h
  (repeat' split at h) <;> simp_all <;> subst h <;> simp

@[simp] theorem State.retireHeads_keeps (s : State) (p n : Nat) :
    (State.retireHeads p n s).pending = s.pending ∧ (State.retireHeads p n s).resetHeld = s.resetHeld ∧
    (State.retireHeads p n s).event = s.event ∧ (State.retireHeads p n s).hnd = s.hnd ∧
    (State.retireHeads p n s).cls = s.cls ∧ (State.retireHeads p n s).unit = s.unit ∧
    (State.retireHeads p n s).console = s.console ∧ (State.retireHeads p n s).tim = s.tim ∧
    (State.retireHeads p n s).supervision = s.supervision ∧ (State.retireHeads p n s).reg.trains = s.reg.trains ∧
    (State.retireHeads p n s).slot = s.slot ∧ (State.retireHeads p n s).reg.notices = s.reg.notices ∧
    (State.retireHeads p n s).trainNotice = s.trainNotice ∧ (State.retireHeads p n s).pow = s.pow ∧
    (State.retireHeads p n s).feeder = s.feeder ∧ (State.retireHeads p n s).sect = s.sect ∧
    (State.retireHeads p n s).pool = s.pool ∧ (State.retireHeads p n s).inc = s.inc ∧
    (State.retireHeads p n s).kind = s.kind ∧ (State.retireHeads p n s).incident = s.incident ∧
    (State.retireHeads p n s).incNotice = s.incNotice ∧ (State.retireHeads p n s).interlocked = s.interlocked ∧
    (State.retireHeads p n s).fraction = s.fraction ∧ (State.retireHeads p n s).platHeld = s.platHeld ∧
    (State.retireHeads p n s).platHeadway = s.platHeadway ∧ (State.retireHeads p n s).com = s.com ∧
    (State.retireHeads p n s).station = s.station ∧ (State.retireHeads p n s).template = s.template ∧
    (State.retireHeads p n s).zone = s.zone ∧ (State.retireHeads p n s).arming = s.arming ∧
    (State.retireHeads p n s).fieldPort = s.fieldPort ∧ (State.retireHeads p n s).consolePort = s.consolePort := by
  induction n generalizing s with
  | zero => simp [State.retireHeads]
  | succ n ih =>
    simp only [State.retireHeads]
    split
    · simp
    · rename_i s' h
      have := ih s'
      have := State.retireHead_keeps h
      simp_all

@[simp] theorem State.retire_keeps (s : State) (p : Nat) :
    (s.retire p).pending = s.pending ∧ (s.retire p).resetHeld = s.resetHeld ∧ (s.retire p).event = s.event ∧
    (s.retire p).hnd = s.hnd ∧ (s.retire p).cls = s.cls ∧ (s.retire p).unit = s.unit ∧
    (s.retire p).console = s.console ∧ (s.retire p).tim = s.tim ∧ (s.retire p).supervision = s.supervision ∧
    (s.retire p).reg.trains = s.reg.trains ∧ (s.retire p).slot = s.slot ∧
    (s.retire p).reg.notices = s.reg.notices ∧ (s.retire p).trainNotice = s.trainNotice ∧
    (s.retire p).pow = s.pow ∧ (s.retire p).feeder = s.feeder ∧ (s.retire p).sect = s.sect ∧
    (s.retire p).pool = s.pool ∧ (s.retire p).inc = s.inc ∧ (s.retire p).kind = s.kind ∧
    (s.retire p).incident = s.incident ∧ (s.retire p).incNotice = s.incNotice ∧
    (s.retire p).interlocked = s.interlocked ∧ (s.retire p).fraction = s.fraction ∧
    (s.retire p).platHeld = s.platHeld ∧ (s.retire p).platHeadway = s.platHeadway ∧ (s.retire p).com = s.com ∧
    (s.retire p).station = s.station ∧ (s.retire p).template = s.template ∧ (s.retire p).zone = s.zone ∧
    (s.retire p).arming = s.arming ∧ (s.retire p).fieldPort = s.fieldPort ∧
    (s.retire p).consolePort = s.consolePort := by
  generalize ht : (s.retire p) = t
  unfold State.retire at ht
  try dsimp only at ht
  (repeat' split at ht) <;> subst ht <;> simp

@[simp] theorem State.pushUnscheduled_keeps (s : State) (t p : Nat) (d : Option Nat) (f : CallFlags) :
    (s.pushUnscheduled t p d f).pending = s.pending ∧ (s.pushUnscheduled t p d f).resetHeld = s.resetHeld ∧
    (s.pushUnscheduled t p d f).event = s.event ∧ (s.pushUnscheduled t p d f).hnd = s.hnd ∧
    (s.pushUnscheduled t p d f).cls = s.cls ∧ (s.pushUnscheduled t p d f).unit = s.unit ∧
    (s.pushUnscheduled t p d f).console = s.console ∧ (s.pushUnscheduled t p d f).tim = s.tim ∧
    (s.pushUnscheduled t p d f).supervision = s.supervision ∧
    (s.pushUnscheduled t p d f).reg.trains = s.reg.trains ∧ (s.pushUnscheduled t p d f).slot = s.slot ∧
    (s.pushUnscheduled t p d f).reg.notices = s.reg.notices ∧
    (s.pushUnscheduled t p d f).trainNotice = s.trainNotice ∧
    (s.pushUnscheduled t p d f).reg.platforms = s.reg.platforms ∧ (s.pushUnscheduled t p d f).plat = s.plat ∧
    (s.pushUnscheduled t p d f).pow = s.pow ∧ (s.pushUnscheduled t p d f).feeder = s.feeder ∧
    (s.pushUnscheduled t p d f).sect = s.sect ∧ (s.pushUnscheduled t p d f).pool = s.pool ∧
    (s.pushUnscheduled t p d f).inc = s.inc ∧ (s.pushUnscheduled t p d f).kind = s.kind ∧
    (s.pushUnscheduled t p d f).incident = s.incident ∧ (s.pushUnscheduled t p d f).incNotice = s.incNotice ∧
    (s.pushUnscheduled t p d f).interlocked = s.interlocked ∧ (s.pushUnscheduled t p d f).fraction = s.fraction ∧
    (s.pushUnscheduled t p d f).platHeld = s.platHeld ∧ (s.pushUnscheduled t p d f).platHeadway = s.platHeadway ∧
    (s.pushUnscheduled t p d f).com = s.com ∧ (s.pushUnscheduled t p d f).station = s.station ∧
    (s.pushUnscheduled t p d f).template = s.template ∧ (s.pushUnscheduled t p d f).zone = s.zone ∧
    (s.pushUnscheduled t p d f).arming = s.arming ∧ (s.pushUnscheduled t p d f).fieldPort = s.fieldPort ∧
    (s.pushUnscheduled t p d f).consolePort = s.consolePort := by
  generalize ht : (s.pushUnscheduled t p d f) = t
  unfold State.pushUnscheduled at ht
  try dsimp only at ht
  (repeat' split at ht) <;> subst ht <;> simp

@[simp] theorem State.giveUpStart_keeps (s : State) (t : Nat) :
    (s.giveUpStart t).pending = s.pending ∧ (s.giveUpStart t).resetHeld = s.resetHeld ∧
    (s.giveUpStart t).event = s.event ∧ (s.giveUpStart t).hnd = s.hnd ∧ (s.giveUpStart t).cls = s.cls ∧
    (s.giveUpStart t).unit = s.unit ∧ (s.giveUpStart t).console = s.console ∧ (s.giveUpStart t).tim = s.tim ∧
    (s.giveUpStart t).supervision = s.supervision ∧ (s.giveUpStart t).reg.notices = s.reg.notices ∧
    (s.giveUpStart t).trainNotice = s.trainNotice ∧ (s.giveUpStart t).reg.outcomes = s.reg.outcomes ∧
    (s.giveUpStart t).reg.outcomeLoss = s.reg.outcomeLoss ∧ (s.giveUpStart t).pow.feeders = s.pow.feeders ∧
    (s.giveUpStart t).feeder = s.feeder ∧ (s.giveUpStart t).pow.demand0 = s.pow.demand0 ∧
    (s.giveUpStart t).pow.demand1 = s.pow.demand1 ∧ (s.giveUpStart t).pow.demand2 = s.pow.demand2 ∧
    (s.giveUpStart t).pow.demand3 = s.pow.demand3 ∧ (s.giveUpStart t).inc = s.inc ∧
    (s.giveUpStart t).kind = s.kind ∧ (s.giveUpStart t).incident = s.incident ∧
    (s.giveUpStart t).incNotice = s.incNotice ∧ (s.giveUpStart t).interlocked = s.interlocked ∧
    (s.giveUpStart t).fraction = s.fraction ∧ (s.giveUpStart t).platHeld = s.platHeld ∧
    (s.giveUpStart t).platHeadway = s.platHeadway ∧ (s.giveUpStart t).com = s.com ∧
    (s.giveUpStart t).station = s.station ∧ (s.giveUpStart t).template = s.template ∧
    (s.giveUpStart t).zone = s.zone ∧ (s.giveUpStart t).arming = s.arming ∧
    (s.giveUpStart t).consolePort = s.consolePort := by
  generalize ht : (s.giveUpStart t) = t
  unfold State.giveUpStart at ht
  try dsimp only at ht
  (repeat' split at ht) <;> subst ht <;> simp

@[simp] theorem State.closeStay_keeps (s : State) (t q : Nat) :
    (s.closeStay t q).pending = s.pending ∧ (s.closeStay t q).resetHeld = s.resetHeld ∧
    (s.closeStay t q).event = s.event ∧ (s.closeStay t q).hnd = s.hnd ∧ (s.closeStay t q).cls = s.cls ∧
    (s.closeStay t q).unit = s.unit ∧ (s.closeStay t q).console = s.console ∧ (s.closeStay t q).tim = s.tim ∧
    (s.closeStay t q).supervision = s.supervision ∧ (s.closeStay t q).reg.notices = s.reg.notices ∧
    (s.closeStay t q).trainNotice = s.trainNotice ∧ (s.closeStay t q).pow.feeders = s.pow.feeders ∧
    (s.closeStay t q).feeder = s.feeder ∧ (s.closeStay t q).pow.demand0 = s.pow.demand0 ∧
    (s.closeStay t q).pow.demand1 = s.pow.demand1 ∧ (s.closeStay t q).pow.demand2 = s.pow.demand2 ∧
    (s.closeStay t q).pow.demand3 = s.pow.demand3 ∧ (s.closeStay t q).inc = s.inc ∧
    (s.closeStay t q).kind = s.kind ∧ (s.closeStay t q).incident = s.incident ∧
    (s.closeStay t q).incNotice = s.incNotice ∧ (s.closeStay t q).interlocked = s.interlocked ∧
    (s.closeStay t q).fraction = s.fraction ∧ (s.closeStay t q).platHeld = s.platHeld ∧
    (s.closeStay t q).platHeadway = s.platHeadway ∧ (s.closeStay t q).com = s.com ∧
    (s.closeStay t q).station = s.station ∧ (s.closeStay t q).template = s.template ∧
    (s.closeStay t q).zone = s.zone ∧ (s.closeStay t q).arming = s.arming ∧
    (s.closeStay t q).consolePort = s.consolePort := by
  generalize ht : (s.closeStay t q) = t
  unfold State.closeStay at ht
  try dsimp only at ht
  (repeat' split at ht) <;> subst ht <;> simp

@[simp] theorem State.displace_keeps (s : State) (p : Nat) :
    (s.displace p).pending = s.pending ∧ (s.displace p).resetHeld = s.resetHeld ∧ (s.displace p).event = s.event ∧
    (s.displace p).hnd = s.hnd ∧ (s.displace p).cls = s.cls ∧ (s.displace p).unit = s.unit ∧
    (s.displace p).console = s.console ∧ (s.displace p).tim = s.tim ∧ (s.displace p).supervision = s.supervision ∧
    (s.displace p).reg.notices = s.reg.notices ∧ (s.displace p).trainNotice = s.trainNotice ∧
    (s.displace p).pow.feeders = s.pow.feeders ∧ (s.displace p).feeder = s.feeder ∧
    (s.displace p).pow.demand0 = s.pow.demand0 ∧ (s.displace p).pow.demand1 = s.pow.demand1 ∧
    (s.displace p).pow.demand2 = s.pow.demand2 ∧ (s.displace p).pow.demand3 = s.pow.demand3 ∧
    (s.displace p).inc = s.inc ∧ (s.displace p).kind = s.kind ∧ (s.displace p).incident = s.incident ∧
    (s.displace p).incNotice = s.incNotice ∧ (s.displace p).interlocked = s.interlocked ∧
    (s.displace p).fraction = s.fraction ∧ (s.displace p).platHeld = s.platHeld ∧
    (s.displace p).platHeadway = s.platHeadway ∧ (s.displace p).com = s.com ∧ (s.displace p).station = s.station ∧
    (s.displace p).template = s.template ∧ (s.displace p).zone = s.zone ∧ (s.displace p).arming = s.arming ∧
    (s.displace p).consolePort = s.consolePort := by
  generalize ht : (s.displace p) = t
  unfold State.displace at ht
  try dsimp only at ht
  (repeat' split at ht) <;> subst ht <;> simp

@[simp] theorem State.consumeArming_keeps (s : State) (p : Nat) (c : ArrivalCtx) :
    (s.consumeArming p c).pending = s.pending ∧ (s.consumeArming p c).resetHeld = s.resetHeld ∧
    (s.consumeArming p c).event = s.event ∧ (s.consumeArming p c).hnd = s.hnd ∧ (s.consumeArming p c).cls = s.cls ∧
    (s.consumeArming p c).unit = s.unit ∧ (s.consumeArming p c).console = s.console ∧
    (s.consumeArming p c).tim = s.tim ∧ (s.consumeArming p c).supervision = s.supervision ∧
    (s.consumeArming p c).reg = s.reg ∧ (s.consumeArming p c).slot = s.slot ∧
    (s.consumeArming p c).trainNotice = s.trainNotice ∧ (s.consumeArming p c).plat = s.plat ∧
    (s.consumeArming p c).pow = s.pow ∧ (s.consumeArming p c).feeder = s.feeder ∧
    (s.consumeArming p c).sect = s.sect ∧ (s.consumeArming p c).pool = s.pool ∧ (s.consumeArming p c).inc = s.inc ∧
    (s.consumeArming p c).kind = s.kind ∧ (s.consumeArming p c).incident = s.incident ∧
    (s.consumeArming p c).incNotice = s.incNotice ∧ (s.consumeArming p c).interlocked = s.interlocked ∧
    (s.consumeArming p c).fraction = s.fraction ∧ (s.consumeArming p c).platHeld = s.platHeld ∧
    (s.consumeArming p c).platHeadway = s.platHeadway ∧ (s.consumeArming p c).com.stations = s.com.stations ∧
    (s.consumeArming p c).station = s.station ∧ (s.consumeArming p c).com.templates = s.com.templates ∧
    (s.consumeArming p c).template = s.template := by
  generalize ht : (s.consumeArming p c) = t
  unfold State.consumeArming at ht
  try dsimp only at ht
  (repeat' split at ht) <;> subst ht <;> simp

@[simp] theorem State.arrive_keeps (s : State) (t p r : Nat) :
    (s.arrive t p r).pending = s.pending ∧ (s.arrive t p r).resetHeld = s.resetHeld ∧
    (s.arrive t p r).event = s.event ∧ (s.arrive t p r).hnd = s.hnd ∧ (s.arrive t p r).cls = s.cls ∧
    (s.arrive t p r).unit = s.unit ∧ (s.arrive t p r).console = s.console ∧ (s.arrive t p r).tim = s.tim ∧
    (s.arrive t p r).supervision = s.supervision ∧ (s.arrive t p r).reg.notices = s.reg.notices ∧
    (s.arrive t p r).trainNotice = s.trainNotice ∧ (s.arrive t p r).pow.feeders = s.pow.feeders ∧
    (s.arrive t p r).feeder = s.feeder ∧ (s.arrive t p r).pow.demand0 = s.pow.demand0 ∧
    (s.arrive t p r).pow.demand1 = s.pow.demand1 ∧ (s.arrive t p r).pow.demand2 = s.pow.demand2 ∧
    (s.arrive t p r).pow.demand3 = s.pow.demand3 ∧ (s.arrive t p r).inc = s.inc ∧ (s.arrive t p r).kind = s.kind ∧
    (s.arrive t p r).incident = s.incident ∧ (s.arrive t p r).incNotice = s.incNotice ∧
    (s.arrive t p r).interlocked = s.interlocked ∧ (s.arrive t p r).fraction = s.fraction ∧
    (s.arrive t p r).platHeld = s.platHeld ∧ (s.arrive t p r).platHeadway = s.platHeadway ∧
    (s.arrive t p r).com.stations = s.com.stations ∧ (s.arrive t p r).station = s.station ∧
    (s.arrive t p r).com.templates = s.com.templates ∧ (s.arrive t p r).template = s.template := by
  generalize ht : (s.arrive t p r) = t
  unfold State.arrive at ht
  try dsimp only at ht
  (repeat' split at ht) <;> subst ht <;> simp

@[simp] theorem State.arrived_keeps (s : State) (t p r : Nat) :
    (s.arrived t p r).pending = s.pending ∧ (s.arrived t p r).resetHeld = s.resetHeld ∧
    (s.arrived t p r).event = s.event ∧ (s.arrived t p r).hnd = s.hnd ∧ (s.arrived t p r).cls = s.cls ∧
    (s.arrived t p r).unit = s.unit ∧ (s.arrived t p r).console = s.console ∧ (s.arrived t p r).tim = s.tim ∧
    (s.arrived t p r).supervision = s.supervision ∧ (s.arrived t p r).reg.notices = s.reg.notices ∧
    (s.arrived t p r).trainNotice = s.trainNotice ∧ (s.arrived t p r).pow.feeders = s.pow.feeders ∧
    (s.arrived t p r).feeder = s.feeder ∧ (s.arrived t p r).pow.demand0 = s.pow.demand0 ∧
    (s.arrived t p r).pow.demand1 = s.pow.demand1 ∧ (s.arrived t p r).pow.demand2 = s.pow.demand2 ∧
    (s.arrived t p r).pow.demand3 = s.pow.demand3 ∧ (s.arrived t p r).inc = s.inc ∧
    (s.arrived t p r).kind = s.kind ∧ (s.arrived t p r).incident = s.incident ∧
    (s.arrived t p r).incNotice = s.incNotice ∧ (s.arrived t p r).interlocked = s.interlocked ∧
    (s.arrived t p r).fraction = s.fraction ∧ (s.arrived t p r).platHeld = s.platHeld ∧
    (s.arrived t p r).platHeadway = s.platHeadway ∧ (s.arrived t p r).com.stations = s.com.stations ∧
    (s.arrived t p r).station = s.station ∧ (s.arrived t p r).com.templates = s.com.templates ∧
    (s.arrived t p r).template = s.template := by
  generalize ht : (s.arrived t p r) = t
  unfold State.arrived at ht
  try dsimp only at ht
  (repeat' split at ht) <;> subst ht <;> simp

@[simp] theorem State.doorsClosedAt_keeps (s : State) (t p : Nat) :
    (s.doorsClosedAt t p).pending = s.pending ∧ (s.doorsClosedAt t p).resetHeld = s.resetHeld ∧
    (s.doorsClosedAt t p).event = s.event ∧ (s.doorsClosedAt t p).hnd = s.hnd ∧ (s.doorsClosedAt t p).cls = s.cls ∧
    (s.doorsClosedAt t p).unit = s.unit ∧ (s.doorsClosedAt t p).console = s.console ∧
    (s.doorsClosedAt t p).tim = s.tim ∧ (s.doorsClosedAt t p).supervision = s.supervision ∧
    (s.doorsClosedAt t p).reg.notices = s.reg.notices ∧ (s.doorsClosedAt t p).trainNotice = s.trainNotice ∧
    (s.doorsClosedAt t p).reg.outcomes = s.reg.outcomes ∧
    (s.doorsClosedAt t p).reg.outcomeLoss = s.reg.outcomeLoss ∧ (s.doorsClosedAt t p).pow.feeders = s.pow.feeders ∧
    (s.doorsClosedAt t p).feeder = s.feeder ∧ (s.doorsClosedAt t p).pow.demand0 = s.pow.demand0 ∧
    (s.doorsClosedAt t p).pow.demand1 = s.pow.demand1 ∧ (s.doorsClosedAt t p).pow.demand2 = s.pow.demand2 ∧
    (s.doorsClosedAt t p).pow.demand3 = s.pow.demand3 ∧ (s.doorsClosedAt t p).inc = s.inc ∧
    (s.doorsClosedAt t p).kind = s.kind ∧ (s.doorsClosedAt t p).incident = s.incident ∧
    (s.doorsClosedAt t p).incNotice = s.incNotice ∧ (s.doorsClosedAt t p).interlocked = s.interlocked ∧
    (s.doorsClosedAt t p).fraction = s.fraction ∧ (s.doorsClosedAt t p).platHeld = s.platHeld ∧
    (s.doorsClosedAt t p).platHeadway = s.platHeadway ∧ (s.doorsClosedAt t p).com = s.com ∧
    (s.doorsClosedAt t p).station = s.station ∧ (s.doorsClosedAt t p).template = s.template ∧
    (s.doorsClosedAt t p).zone = s.zone ∧ (s.doorsClosedAt t p).arming = s.arming ∧
    (s.doorsClosedAt t p).consolePort = s.consolePort := by
  generalize ht : (s.doorsClosedAt t p) = t
  unfold State.doorsClosedAt at ht
  try dsimp only at ht
  (repeat' split at ht) <;> subst ht <;> simp

@[simp] theorem State.doorsClosed_keeps (s : State) (t p : Nat) :
    (s.doorsClosed t p).pending = s.pending ∧ (s.doorsClosed t p).resetHeld = s.resetHeld ∧
    (s.doorsClosed t p).event = s.event ∧ (s.doorsClosed t p).hnd = s.hnd ∧ (s.doorsClosed t p).cls = s.cls ∧
    (s.doorsClosed t p).unit = s.unit ∧ (s.doorsClosed t p).console = s.console ∧ (s.doorsClosed t p).tim = s.tim ∧
    (s.doorsClosed t p).supervision = s.supervision ∧ (s.doorsClosed t p).reg.notices = s.reg.notices ∧
    (s.doorsClosed t p).trainNotice = s.trainNotice ∧ (s.doorsClosed t p).reg.outcomes = s.reg.outcomes ∧
    (s.doorsClosed t p).reg.outcomeLoss = s.reg.outcomeLoss ∧ (s.doorsClosed t p).pow.feeders = s.pow.feeders ∧
    (s.doorsClosed t p).feeder = s.feeder ∧ (s.doorsClosed t p).pow.demand0 = s.pow.demand0 ∧
    (s.doorsClosed t p).pow.demand1 = s.pow.demand1 ∧ (s.doorsClosed t p).pow.demand2 = s.pow.demand2 ∧
    (s.doorsClosed t p).pow.demand3 = s.pow.demand3 ∧ (s.doorsClosed t p).inc = s.inc ∧
    (s.doorsClosed t p).kind = s.kind ∧ (s.doorsClosed t p).incident = s.incident ∧
    (s.doorsClosed t p).incNotice = s.incNotice ∧ (s.doorsClosed t p).interlocked = s.interlocked ∧
    (s.doorsClosed t p).fraction = s.fraction ∧ (s.doorsClosed t p).platHeld = s.platHeld ∧
    (s.doorsClosed t p).platHeadway = s.platHeadway ∧ (s.doorsClosed t p).com = s.com ∧
    (s.doorsClosed t p).station = s.station ∧ (s.doorsClosed t p).template = s.template ∧
    (s.doorsClosed t p).zone = s.zone ∧ (s.doorsClosed t p).arming = s.arming ∧
    (s.doorsClosed t p).consolePort = s.consolePort := by
  generalize ht : (s.doorsClosed t p) = t
  unfold State.doorsClosed at ht
  try dsimp only at ht
  (repeat' split at ht) <;> subst ht <;> simp

@[simp] theorem State.lateCheck_keeps (s : State) (t p : Nat) (l : Int) :
    (s.lateCheck t p l).pending = s.pending ∧ (s.lateCheck t p l).resetHeld = s.resetHeld ∧
    (s.lateCheck t p l).event = s.event ∧ (s.lateCheck t p l).hnd = s.hnd ∧ (s.lateCheck t p l).cls = s.cls ∧
    (s.lateCheck t p l).unit = s.unit ∧ (s.lateCheck t p l).console = s.console ∧ (s.lateCheck t p l).tim = s.tim ∧
    (s.lateCheck t p l).supervision = s.supervision ∧ (s.lateCheck t p l).reg.notices = s.reg.notices ∧
    (s.lateCheck t p l).trainNotice = s.trainNotice ∧ (s.lateCheck t p l).reg.outcomes = s.reg.outcomes ∧
    (s.lateCheck t p l).reg.outcomeLoss = s.reg.outcomeLoss ∧ (s.lateCheck t p l).pow.demand0 = s.pow.demand0 ∧
    (s.lateCheck t p l).pow.demand1 = s.pow.demand1 ∧ (s.lateCheck t p l).pow.demand2 = s.pow.demand2 ∧
    (s.lateCheck t p l).pow.demand3 = s.pow.demand3 ∧ (s.lateCheck t p l).inc.kinds = s.inc.kinds ∧
    (s.lateCheck t p l).kind = s.kind ∧ (s.lateCheck t p l).com.stations = s.com.stations ∧
    (s.lateCheck t p l).station = s.station ∧ (s.lateCheck t p l).com.templates = s.com.templates ∧
    (s.lateCheck t p l).template = s.template ∧ (s.lateCheck t p l).com.armings = s.com.armings ∧
    (s.lateCheck t p l).arming = s.arming := by
  generalize ht : (s.lateCheck t p l) = t
  unfold State.lateCheck at ht
  try dsimp only at ht
  (repeat' split at ht) <;> subst ht <;> simp

@[simp] theorem State.departAt_keeps (s : State) (t p : Nat) :
    (s.departAt t p).pending = s.pending ∧ (s.departAt t p).resetHeld = s.resetHeld ∧
    (s.departAt t p).event = s.event ∧ (s.departAt t p).hnd = s.hnd ∧ (s.departAt t p).cls = s.cls ∧
    (s.departAt t p).unit = s.unit ∧ (s.departAt t p).console = s.console ∧ (s.departAt t p).tim = s.tim ∧
    (s.departAt t p).supervision = s.supervision ∧ (s.departAt t p).reg.notices = s.reg.notices ∧
    (s.departAt t p).trainNotice = s.trainNotice ∧ (s.departAt t p).pow.demand0 = s.pow.demand0 ∧
    (s.departAt t p).pow.demand1 = s.pow.demand1 ∧ (s.departAt t p).pow.demand2 = s.pow.demand2 ∧
    (s.departAt t p).pow.demand3 = s.pow.demand3 ∧ (s.departAt t p).inc.kinds = s.inc.kinds ∧
    (s.departAt t p).kind = s.kind ∧ (s.departAt t p).com.stations = s.com.stations ∧
    (s.departAt t p).station = s.station ∧ (s.departAt t p).com.templates = s.com.templates ∧
    (s.departAt t p).template = s.template ∧ (s.departAt t p).com.armings = s.com.armings ∧
    (s.departAt t p).arming = s.arming := by
  generalize ht : (s.departAt t p) = t
  unfold State.departAt at ht
  try dsimp only at ht
  (repeat' split at ht) <;> subst ht <;> simp

@[simp] theorem State.departed_keeps (s : State) (t p : Nat) :
    (s.departed t p).pending = s.pending ∧ (s.departed t p).resetHeld = s.resetHeld ∧
    (s.departed t p).event = s.event ∧ (s.departed t p).hnd = s.hnd ∧ (s.departed t p).cls = s.cls ∧
    (s.departed t p).unit = s.unit ∧ (s.departed t p).console = s.console ∧ (s.departed t p).tim = s.tim ∧
    (s.departed t p).supervision = s.supervision ∧ (s.departed t p).reg.notices = s.reg.notices ∧
    (s.departed t p).trainNotice = s.trainNotice ∧ (s.departed t p).pow.demand0 = s.pow.demand0 ∧
    (s.departed t p).pow.demand1 = s.pow.demand1 ∧ (s.departed t p).pow.demand2 = s.pow.demand2 ∧
    (s.departed t p).pow.demand3 = s.pow.demand3 ∧ (s.departed t p).inc.kinds = s.inc.kinds ∧
    (s.departed t p).kind = s.kind ∧ (s.departed t p).com.stations = s.com.stations ∧
    (s.departed t p).station = s.station ∧ (s.departed t p).com.templates = s.com.templates ∧
    (s.departed t p).template = s.template ∧ (s.departed t p).com.armings = s.com.armings ∧
    (s.departed t p).arming = s.arming := by
  generalize ht : (s.departed t p) = t
  unfold State.departed at ht
  try dsimp only at ht
  (repeat' split at ht) <;> subst ht <;> simp

@[simp] theorem State.recordSection_keeps (s : State) (t k : Nat) :
    (s.recordSection t k).pending = s.pending ∧ (s.recordSection t k).resetHeld = s.resetHeld ∧
    (s.recordSection t k).event = s.event ∧ (s.recordSection t k).hnd = s.hnd ∧ (s.recordSection t k).cls = s.cls ∧
    (s.recordSection t k).unit = s.unit ∧ (s.recordSection t k).console = s.console ∧
    (s.recordSection t k).tim = s.tim ∧ (s.recordSection t k).supervision = s.supervision ∧
    (s.recordSection t k).reg.notices = s.reg.notices ∧ (s.recordSection t k).trainNotice = s.trainNotice ∧
    (s.recordSection t k).reg.platforms = s.reg.platforms ∧ (s.recordSection t k).plat = s.plat ∧
    (s.recordSection t k).reg.outcomes = s.reg.outcomes ∧
    (s.recordSection t k).reg.outcomeLoss = s.reg.outcomeLoss ∧ (s.recordSection t k).pow = s.pow ∧
    (s.recordSection t k).feeder = s.feeder ∧ (s.recordSection t k).sect = s.sect ∧
    (s.recordSection t k).pool = s.pool ∧ (s.recordSection t k).inc = s.inc ∧ (s.recordSection t k).kind = s.kind ∧
    (s.recordSection t k).incident = s.incident ∧ (s.recordSection t k).incNotice = s.incNotice ∧
    (s.recordSection t k).interlocked = s.interlocked ∧ (s.recordSection t k).fraction = s.fraction ∧
    (s.recordSection t k).platHeld = s.platHeld ∧ (s.recordSection t k).platHeadway = s.platHeadway ∧
    (s.recordSection t k).com = s.com ∧ (s.recordSection t k).station = s.station ∧
    (s.recordSection t k).template = s.template ∧ (s.recordSection t k).zone = s.zone ∧
    (s.recordSection t k).arming = s.arming ∧ (s.recordSection t k).fieldPort = s.fieldPort ∧
    (s.recordSection t k).consolePort = s.consolePort := by
  generalize ht : (s.recordSection t k) = t
  unfold State.recordSection at ht
  try dsimp only at ht
  (repeat' split at ht) <;> subst ht <;> simp

@[simp] theorem State.position_keeps (s : State) (t k : Nat) :
    (s.position t k).pending = s.pending ∧ (s.position t k).resetHeld = s.resetHeld ∧
    (s.position t k).event = s.event ∧ (s.position t k).hnd = s.hnd ∧ (s.position t k).cls = s.cls ∧
    (s.position t k).unit = s.unit ∧ (s.position t k).console = s.console ∧ (s.position t k).tim = s.tim ∧
    (s.position t k).supervision = s.supervision ∧ (s.position t k).reg.notices = s.reg.notices ∧
    (s.position t k).trainNotice = s.trainNotice ∧ (s.position t k).reg.platforms = s.reg.platforms ∧
    (s.position t k).plat = s.plat ∧ (s.position t k).reg.outcomes = s.reg.outcomes ∧
    (s.position t k).reg.outcomeLoss = s.reg.outcomeLoss ∧ (s.position t k).pow = s.pow ∧
    (s.position t k).feeder = s.feeder ∧ (s.position t k).sect = s.sect ∧ (s.position t k).pool = s.pool ∧
    (s.position t k).inc = s.inc ∧ (s.position t k).kind = s.kind ∧ (s.position t k).incident = s.incident ∧
    (s.position t k).incNotice = s.incNotice ∧ (s.position t k).interlocked = s.interlocked ∧
    (s.position t k).fraction = s.fraction ∧ (s.position t k).platHeld = s.platHeld ∧
    (s.position t k).platHeadway = s.platHeadway ∧ (s.position t k).com = s.com ∧
    (s.position t k).station = s.station ∧ (s.position t k).template = s.template ∧
    (s.position t k).zone = s.zone ∧ (s.position t k).arming = s.arming ∧
    (s.position t k).fieldPort = s.fieldPort ∧ (s.position t k).consolePort = s.consolePort := by
  generalize ht : (s.position t k) = t
  unfold State.position at ht
  try dsimp only at ht
  (repeat' split at ht) <;> subst ht <;> simp

@[simp] theorem State.startRequest_keeps (s : State) (t k : Nat) :
    (s.startRequest t k).pending = s.pending ∧ (s.startRequest t k).resetHeld = s.resetHeld ∧
    (s.startRequest t k).event = s.event ∧ (s.startRequest t k).hnd = s.hnd ∧ (s.startRequest t k).cls = s.cls ∧
    (s.startRequest t k).unit = s.unit ∧ (s.startRequest t k).console = s.console ∧
    (s.startRequest t k).tim = s.tim ∧ (s.startRequest t k).supervision = s.supervision ∧
    (s.startRequest t k).reg.notices = s.reg.notices ∧ (s.startRequest t k).trainNotice = s.trainNotice ∧
    (s.startRequest t k).reg.outcomes = s.reg.outcomes ∧ (s.startRequest t k).reg.outcomeLoss = s.reg.outcomeLoss ∧
    (s.startRequest t k).pow.feeders = s.pow.feeders ∧ (s.startRequest t k).feeder = s.feeder ∧
    (s.startRequest t k).pow.demand0 = s.pow.demand0 ∧ (s.startRequest t k).pow.demand1 = s.pow.demand1 ∧
    (s.startRequest t k).pow.demand2 = s.pow.demand2 ∧ (s.startRequest t k).pow.demand3 = s.pow.demand3 ∧
    (s.startRequest t k).inc = s.inc ∧ (s.startRequest t k).kind = s.kind ∧
    (s.startRequest t k).incident = s.incident ∧ (s.startRequest t k).incNotice = s.incNotice ∧
    (s.startRequest t k).interlocked = s.interlocked ∧ (s.startRequest t k).fraction = s.fraction ∧
    (s.startRequest t k).platHeld = s.platHeld ∧ (s.startRequest t k).platHeadway = s.platHeadway ∧
    (s.startRequest t k).com = s.com ∧ (s.startRequest t k).station = s.station ∧
    (s.startRequest t k).template = s.template ∧ (s.startRequest t k).zone = s.zone ∧
    (s.startRequest t k).arming = s.arming ∧ (s.startRequest t k).consolePort = s.consolePort := by
  generalize ht : (s.startRequest t k) = t
  unfold State.startRequest at ht
  try dsimp only at ht
  (repeat' split at ht) <;> subst ht <;> simp

@[simp] theorem State.loseTrain_keeps (s : State) (t : Nat) :
    (s.loseTrain t).pending = s.pending ∧ (s.loseTrain t).resetHeld = s.resetHeld ∧
    (s.loseTrain t).event = s.event ∧ (s.loseTrain t).hnd = s.hnd ∧ (s.loseTrain t).cls = s.cls ∧
    (s.loseTrain t).unit = s.unit ∧ (s.loseTrain t).console = s.console ∧ (s.loseTrain t).tim = s.tim ∧
    (s.loseTrain t).supervision = s.supervision ∧ (s.loseTrain t).reg.outcomes = s.reg.outcomes ∧
    (s.loseTrain t).reg.outcomeLoss = s.reg.outcomeLoss ∧ (s.loseTrain t).pow.demand0 = s.pow.demand0 ∧
    (s.loseTrain t).pow.demand1 = s.pow.demand1 ∧ (s.loseTrain t).pow.demand2 = s.pow.demand2 ∧
    (s.loseTrain t).pow.demand3 = s.pow.demand3 ∧ (s.loseTrain t).inc.kinds = s.inc.kinds ∧
    (s.loseTrain t).kind = s.kind ∧ (s.loseTrain t).com.stations = s.com.stations ∧
    (s.loseTrain t).station = s.station ∧ (s.loseTrain t).com.templates = s.com.templates ∧
    (s.loseTrain t).template = s.template ∧ (s.loseTrain t).com.armings = s.com.armings ∧
    (s.loseTrain t).arming = s.arming := by
  generalize ht : (s.loseTrain t) = t
  unfold State.loseTrain at ht
  try dsimp only at ht
  (repeat' split at ht) <;> subst ht <;> simp

@[simp] theorem State.noticeRecovered_keeps (s : State) (t : Nat) :
    (s.noticeRecovered t).pending = s.pending ∧ (s.noticeRecovered t).resetHeld = s.resetHeld ∧
    (s.noticeRecovered t).event = s.event ∧ (s.noticeRecovered t).hnd = s.hnd ∧ (s.noticeRecovered t).cls = s.cls ∧
    (s.noticeRecovered t).unit = s.unit ∧ (s.noticeRecovered t).console = s.console ∧
    (s.noticeRecovered t).tim = s.tim ∧ (s.noticeRecovered t).supervision = s.supervision ∧
    (s.noticeRecovered t).reg.outcomes = s.reg.outcomes ∧
    (s.noticeRecovered t).reg.outcomeLoss = s.reg.outcomeLoss ∧ (s.noticeRecovered t).pow.demand0 = s.pow.demand0 ∧
    (s.noticeRecovered t).pow.demand1 = s.pow.demand1 ∧ (s.noticeRecovered t).pow.demand2 = s.pow.demand2 ∧
    (s.noticeRecovered t).pow.demand3 = s.pow.demand3 ∧ (s.noticeRecovered t).inc.kinds = s.inc.kinds ∧
    (s.noticeRecovered t).kind = s.kind ∧ (s.noticeRecovered t).inc.overflow = s.inc.overflow ∧
    (s.noticeRecovered t).com.stations = s.com.stations ∧ (s.noticeRecovered t).station = s.station ∧
    (s.noticeRecovered t).com.templates = s.com.templates ∧ (s.noticeRecovered t).template = s.template ∧
    (s.noticeRecovered t).com.armings = s.com.armings ∧ (s.noticeRecovered t).arming = s.arming := by
  generalize ht : (s.noticeRecovered t) = t
  unfold State.noticeRecovered at ht
  try dsimp only at ht
  (repeat' split at ht) <;> subst ht <;> simp

@[simp] theorem State.recover_keeps (s : State) (t : Nat) (r : Option Nat) :
    (s.recover t r).pending = s.pending ∧ (s.recover t r).resetHeld = s.resetHeld ∧
    (s.recover t r).event = s.event ∧ (s.recover t r).hnd = s.hnd ∧ (s.recover t r).cls = s.cls ∧
    (s.recover t r).unit = s.unit ∧ (s.recover t r).console = s.console ∧ (s.recover t r).tim = s.tim ∧
    (s.recover t r).supervision = s.supervision ∧ (s.recover t r).reg.outcomes = s.reg.outcomes ∧
    (s.recover t r).reg.outcomeLoss = s.reg.outcomeLoss ∧ (s.recover t r).pow.demand0 = s.pow.demand0 ∧
    (s.recover t r).pow.demand1 = s.pow.demand1 ∧ (s.recover t r).pow.demand2 = s.pow.demand2 ∧
    (s.recover t r).pow.demand3 = s.pow.demand3 ∧ (s.recover t r).inc.kinds = s.inc.kinds ∧
    (s.recover t r).kind = s.kind ∧ (s.recover t r).inc.overflow = s.inc.overflow ∧
    (s.recover t r).com.stations = s.com.stations ∧ (s.recover t r).station = s.station ∧
    (s.recover t r).com.templates = s.com.templates ∧ (s.recover t r).template = s.template ∧
    (s.recover t r).com.armings = s.com.armings ∧ (s.recover t r).arming = s.arming := by
  generalize ht : (s.recover t r) = t
  unfold State.recover at ht
  try dsimp only at ht
  (repeat' split at ht) <;> subst ht <;> simp

theorem State.lapseHead_keeps {s s' : State} {p : Nat} (h : s.lapseHead p = some s') :
    s'.pending = s.pending ∧ s'.resetHeld = s.resetHeld ∧ s'.event = s.event ∧ s'.hnd = s.hnd ∧ s'.cls = s.cls ∧
    s'.unit = s.unit ∧ s'.console = s.console ∧ s'.tim = s.tim ∧ s'.supervision = s.supervision ∧
    s'.reg.trains = s.reg.trains ∧ s'.slot = s.slot ∧ s'.reg.notices = s.reg.notices ∧
    s'.trainNotice = s.trainNotice ∧ s'.pow = s.pow ∧ s'.feeder = s.feeder ∧ s'.sect = s.sect ∧ s'.pool = s.pool ∧
    s'.inc = s.inc ∧ s'.kind = s.kind ∧ s'.incident = s.incident ∧ s'.incNotice = s.incNotice ∧
    s'.interlocked = s.interlocked ∧ s'.fraction = s.fraction ∧ s'.platHeld = s.platHeld ∧
    s'.platHeadway = s.platHeadway ∧ s'.com = s.com ∧ s'.station = s.station ∧ s'.template = s.template ∧
    s'.zone = s.zone ∧ s'.arming = s.arming ∧ s'.fieldPort = s.fieldPort ∧ s'.consolePort = s.consolePort := by
  simp only [State.lapseHead] at h
  (repeat' split at h) <;> simp_all <;> subst h <;> simp

@[simp] theorem State.lapseHeads_keeps (s : State) (p n : Nat) :
    (State.lapseHeads p n s).pending = s.pending ∧ (State.lapseHeads p n s).resetHeld = s.resetHeld ∧
    (State.lapseHeads p n s).event = s.event ∧ (State.lapseHeads p n s).hnd = s.hnd ∧
    (State.lapseHeads p n s).cls = s.cls ∧ (State.lapseHeads p n s).unit = s.unit ∧
    (State.lapseHeads p n s).console = s.console ∧ (State.lapseHeads p n s).tim = s.tim ∧
    (State.lapseHeads p n s).supervision = s.supervision ∧ (State.lapseHeads p n s).reg.trains = s.reg.trains ∧
    (State.lapseHeads p n s).slot = s.slot ∧ (State.lapseHeads p n s).reg.notices = s.reg.notices ∧
    (State.lapseHeads p n s).trainNotice = s.trainNotice ∧ (State.lapseHeads p n s).pow = s.pow ∧
    (State.lapseHeads p n s).feeder = s.feeder ∧ (State.lapseHeads p n s).sect = s.sect ∧
    (State.lapseHeads p n s).pool = s.pool ∧ (State.lapseHeads p n s).inc = s.inc ∧
    (State.lapseHeads p n s).kind = s.kind ∧ (State.lapseHeads p n s).incident = s.incident ∧
    (State.lapseHeads p n s).incNotice = s.incNotice ∧ (State.lapseHeads p n s).interlocked = s.interlocked ∧
    (State.lapseHeads p n s).fraction = s.fraction ∧ (State.lapseHeads p n s).platHeld = s.platHeld ∧
    (State.lapseHeads p n s).platHeadway = s.platHeadway ∧ (State.lapseHeads p n s).com = s.com ∧
    (State.lapseHeads p n s).station = s.station ∧ (State.lapseHeads p n s).template = s.template ∧
    (State.lapseHeads p n s).zone = s.zone ∧ (State.lapseHeads p n s).arming = s.arming ∧
    (State.lapseHeads p n s).fieldPort = s.fieldPort ∧ (State.lapseHeads p n s).consolePort = s.consolePort := by
  induction n generalizing s with
  | zero => simp [State.lapseHeads]
  | succ n ih =>
    simp only [State.lapseHeads]
    split
    · simp
    · rename_i s' h
      have := ih s'
      have := State.lapseHead_keeps h
      simp_all

@[simp] theorem State.lapse_keeps (s : State) (p : Nat) :
    (s.lapse p).pending = s.pending ∧ (s.lapse p).resetHeld = s.resetHeld ∧ (s.lapse p).event = s.event ∧
    (s.lapse p).hnd = s.hnd ∧ (s.lapse p).cls = s.cls ∧ (s.lapse p).unit = s.unit ∧
    (s.lapse p).console = s.console ∧ (s.lapse p).tim = s.tim ∧ (s.lapse p).supervision = s.supervision ∧
    (s.lapse p).reg.trains = s.reg.trains ∧ (s.lapse p).slot = s.slot ∧ (s.lapse p).reg.notices = s.reg.notices ∧
    (s.lapse p).trainNotice = s.trainNotice ∧ (s.lapse p).pow = s.pow ∧ (s.lapse p).feeder = s.feeder ∧
    (s.lapse p).sect = s.sect ∧ (s.lapse p).pool = s.pool ∧ (s.lapse p).inc = s.inc ∧ (s.lapse p).kind = s.kind ∧
    (s.lapse p).incident = s.incident ∧ (s.lapse p).incNotice = s.incNotice ∧
    (s.lapse p).interlocked = s.interlocked ∧ (s.lapse p).fraction = s.fraction ∧
    (s.lapse p).platHeld = s.platHeld ∧ (s.lapse p).platHeadway = s.platHeadway ∧ (s.lapse p).com = s.com ∧
    (s.lapse p).station = s.station ∧ (s.lapse p).template = s.template ∧ (s.lapse p).zone = s.zone ∧
    (s.lapse p).arming = s.arming ∧ (s.lapse p).fieldPort = s.fieldPort ∧ (s.lapse p).consolePort = s.consolePort := by
  generalize ht : (s.lapse p) = t
  unfold State.lapse at ht
  try dsimp only at ht
  (repeat' split at ht) <;> subst ht <;> simp

@[simp] theorem State.displayCycle_keeps (s : State) :
    s.displayCycle.pending = s.pending ∧ s.displayCycle.resetHeld = s.resetHeld ∧ s.displayCycle.event = s.event ∧
    s.displayCycle.hnd = s.hnd ∧ s.displayCycle.cls = s.cls ∧ s.displayCycle.unit = s.unit ∧
    s.displayCycle.console = s.console ∧ s.displayCycle.tim = s.tim ∧ s.displayCycle.supervision = s.supervision ∧
    s.displayCycle.reg.trains = s.reg.trains ∧ s.displayCycle.slot = s.slot ∧
    s.displayCycle.reg.notices = s.reg.notices ∧ s.displayCycle.trainNotice = s.trainNotice ∧
    s.displayCycle.pow = s.pow ∧ s.displayCycle.feeder = s.feeder ∧ s.displayCycle.sect = s.sect ∧
    s.displayCycle.pool = s.pool ∧ s.displayCycle.inc = s.inc ∧ s.displayCycle.kind = s.kind ∧
    s.displayCycle.incident = s.incident ∧ s.displayCycle.incNotice = s.incNotice ∧
    s.displayCycle.interlocked = s.interlocked ∧ s.displayCycle.fraction = s.fraction ∧
    s.displayCycle.platHeld = s.platHeld ∧ s.displayCycle.platHeadway = s.platHeadway ∧
    s.displayCycle.com = s.com ∧ s.displayCycle.station = s.station ∧ s.displayCycle.template = s.template ∧
    s.displayCycle.zone = s.zone ∧ s.displayCycle.arming = s.arming ∧ s.displayCycle.consolePort = s.consolePort := by
  generalize ht : s.displayCycle = t
  unfold State.displayCycle at ht
  try dsimp only at ht
  (repeat' split at ht) <;> subst ht <;> simp

@[simp] theorem State.bind_keeps (s : State) (t a r c : Nat) :
    (s.bind t a r c).pending = s.pending ∧ (s.bind t a r c).resetHeld = s.resetHeld ∧
    (s.bind t a r c).event = s.event ∧ (s.bind t a r c).hnd = s.hnd ∧
    (s.bind t a r c).cls.consoles = s.cls.consoles ∧ (s.bind t a r c).console = s.console ∧
    (s.bind t a r c).cls.unknownSource = s.cls.unknownSource ∧
    (s.bind t a r c).cls.roleMismatch = s.cls.roleMismatch ∧ (s.bind t a r c).tim = s.tim ∧
    (s.bind t a r c).supervision = s.supervision ∧ (s.bind t a r c).reg.notices = s.reg.notices ∧
    (s.bind t a r c).trainNotice = s.trainNotice ∧ (s.bind t a r c).reg.outcomes = s.reg.outcomes ∧
    (s.bind t a r c).reg.outcomeLoss = s.reg.outcomeLoss ∧ (s.bind t a r c).pow = s.pow ∧
    (s.bind t a r c).feeder = s.feeder ∧ (s.bind t a r c).sect = s.sect ∧ (s.bind t a r c).pool = s.pool ∧
    (s.bind t a r c).inc = s.inc ∧ (s.bind t a r c).kind = s.kind ∧ (s.bind t a r c).incident = s.incident ∧
    (s.bind t a r c).incNotice = s.incNotice ∧ (s.bind t a r c).interlocked = s.interlocked ∧
    (s.bind t a r c).fraction = s.fraction ∧ (s.bind t a r c).platHeld = s.platHeld ∧
    (s.bind t a r c).platHeadway = s.platHeadway ∧ (s.bind t a r c).com = s.com ∧
    (s.bind t a r c).station = s.station ∧ (s.bind t a r c).template = s.template ∧
    (s.bind t a r c).zone = s.zone ∧ (s.bind t a r c).arming = s.arming ∧
    (s.bind t a r c).consolePort = s.consolePort := by
  generalize ht : (s.bind t a r c) = t
  unfold State.bind at ht
  try dsimp only at ht
  (repeat' split at ht) <;> subst ht <;> simp

@[simp] theorem State.release_keeps (s : State) (t : Nat) :
    (s.release t).pending = s.pending ∧ (s.release t).resetHeld = s.resetHeld ∧ (s.release t).event = s.event ∧
    (s.release t).hnd = s.hnd ∧ (s.release t).cls.consoles = s.cls.consoles ∧ (s.release t).console = s.console ∧
    (s.release t).cls.unknownSource = s.cls.unknownSource ∧ (s.release t).cls.roleMismatch = s.cls.roleMismatch ∧
    (s.release t).tim = s.tim ∧ (s.release t).supervision = s.supervision ∧
    (s.release t).reg.notices = s.reg.notices ∧ (s.release t).trainNotice = s.trainNotice ∧
    (s.release t).reg.outcomes = s.reg.outcomes ∧ (s.release t).reg.outcomeLoss = s.reg.outcomeLoss ∧
    (s.release t).pow.demand0 = s.pow.demand0 ∧ (s.release t).pow.demand1 = s.pow.demand1 ∧
    (s.release t).pow.demand2 = s.pow.demand2 ∧ (s.release t).pow.demand3 = s.pow.demand3 ∧
    (s.release t).inc.kinds = s.inc.kinds ∧ (s.release t).kind = s.kind ∧
    (s.release t).inc.overflow = s.inc.overflow ∧ (s.release t).com.stations = s.com.stations ∧
    (s.release t).station = s.station ∧ (s.release t).com.templates = s.com.templates ∧
    (s.release t).template = s.template ∧ (s.release t).com.armings = s.com.armings ∧
    (s.release t).arming = s.arming := by
  generalize ht : (s.release t) = t
  unfold State.release at ht
  try dsimp only at ht
  (repeat' split at ht) <;> subst ht <;> simp

/-! ## Reports -/

@[simp] theorem State.applyEntry_keeps (u : Nat) (s : State) (e : ReportEntry) :
    (State.applyEntry u s e).pending = s.pending ∧ (State.applyEntry u s e).resetHeld = s.resetHeld ∧
    (State.applyEntry u s e).event = s.event ∧ (State.applyEntry u s e).hnd = s.hnd ∧
    (State.applyEntry u s e).cls = s.cls ∧ (State.applyEntry u s e).unit = s.unit ∧
    (State.applyEntry u s e).console = s.console ∧ (State.applyEntry u s e).tim = s.tim ∧
    (State.applyEntry u s e).supervision = s.supervision ∧ (State.applyEntry u s e).reg = s.reg ∧
    (State.applyEntry u s e).slot = s.slot ∧ (State.applyEntry u s e).trainNotice = s.trainNotice ∧
    (State.applyEntry u s e).plat = s.plat ∧ (State.applyEntry u s e).pow.sections = s.pow.sections ∧
    (State.applyEntry u s e).sect = s.sect ∧ (State.applyEntry u s e).pow.pool = s.pow.pool ∧
    (State.applyEntry u s e).pool = s.pool ∧ (State.applyEntry u s e).pow.demand0 = s.pow.demand0 ∧
    (State.applyEntry u s e).pow.demand1 = s.pow.demand1 ∧ (State.applyEntry u s e).pow.demand2 = s.pow.demand2 ∧
    (State.applyEntry u s e).pow.demand3 = s.pow.demand3 ∧ (State.applyEntry u s e).inc = s.inc ∧
    (State.applyEntry u s e).kind = s.kind ∧ (State.applyEntry u s e).incident = s.incident ∧
    (State.applyEntry u s e).incNotice = s.incNotice ∧ (State.applyEntry u s e).interlocked = s.interlocked ∧
    (State.applyEntry u s e).fraction = s.fraction ∧ (State.applyEntry u s e).platHeld = s.platHeld ∧
    (State.applyEntry u s e).platHeadway = s.platHeadway ∧ (State.applyEntry u s e).com = s.com ∧
    (State.applyEntry u s e).station = s.station ∧ (State.applyEntry u s e).template = s.template ∧
    (State.applyEntry u s e).zone = s.zone ∧ (State.applyEntry u s e).arming = s.arming ∧
    (State.applyEntry u s e).fieldPort = s.fieldPort ∧ (State.applyEntry u s e).consolePort = s.consolePort := by
  generalize ht : (State.applyEntry u s e) = t
  unfold State.applyEntry at ht
  try dsimp only at ht
  (repeat' split at ht) <;> subst ht <;> simp

@[simp] theorem State.energised_keeps (s : State) (k : Nat) (c : SectCause) :
    (s.energised k c).pending = s.pending ∧ (s.energised k c).resetHeld = s.resetHeld ∧
    (s.energised k c).event = s.event ∧ (s.energised k c).hnd = s.hnd ∧ (s.energised k c).cls = s.cls ∧
    (s.energised k c).unit = s.unit ∧ (s.energised k c).console = s.console ∧ (s.energised k c).tim = s.tim ∧
    (s.energised k c).supervision = s.supervision ∧ (s.energised k c).reg.notices = s.reg.notices ∧
    (s.energised k c).trainNotice = s.trainNotice ∧ (s.energised k c).reg.outcomes = s.reg.outcomes ∧
    (s.energised k c).reg.outcomeLoss = s.reg.outcomeLoss ∧ (s.energised k c).pow.demand0 = s.pow.demand0 ∧
    (s.energised k c).pow.demand1 = s.pow.demand1 ∧ (s.energised k c).pow.demand2 = s.pow.demand2 ∧
    (s.energised k c).pow.demand3 = s.pow.demand3 ∧ (s.energised k c).inc.kinds = s.inc.kinds ∧
    (s.energised k c).kind = s.kind ∧ (s.energised k c).inc.overflow = s.inc.overflow ∧
    (s.energised k c).com.stations = s.com.stations ∧ (s.energised k c).station = s.station ∧
    (s.energised k c).com.templates = s.com.templates ∧ (s.energised k c).template = s.template ∧
    (s.energised k c).com.armings = s.com.armings ∧ (s.energised k c).arming = s.arming := by
  generalize ht : (s.energised k c) = t
  unfold State.energised at ht
  try dsimp only at ht
  (repeat' split at ht) <;> subst ht <;> simp

@[simp] theorem State.trip_keeps (s : State) (k : Nat) (c : SectCause) :
    (s.trip k c).pending = s.pending ∧ (s.trip k c).resetHeld = s.resetHeld ∧ (s.trip k c).event = s.event ∧
    (s.trip k c).hnd = s.hnd ∧ (s.trip k c).cls = s.cls ∧ (s.trip k c).unit = s.unit ∧
    (s.trip k c).console = s.console ∧ (s.trip k c).tim = s.tim ∧ (s.trip k c).supervision = s.supervision ∧
    (s.trip k c).reg.notices = s.reg.notices ∧ (s.trip k c).trainNotice = s.trainNotice ∧
    (s.trip k c).reg.outcomes = s.reg.outcomes ∧ (s.trip k c).reg.outcomeLoss = s.reg.outcomeLoss ∧
    (s.trip k c).pow.demand0 = s.pow.demand0 ∧ (s.trip k c).pow.demand1 = s.pow.demand1 ∧
    (s.trip k c).pow.demand2 = s.pow.demand2 ∧ (s.trip k c).pow.demand3 = s.pow.demand3 ∧
    (s.trip k c).inc.kinds = s.inc.kinds ∧ (s.trip k c).kind = s.kind ∧
    (s.trip k c).com.stations = s.com.stations ∧ (s.trip k c).station = s.station ∧
    (s.trip k c).com.templates = s.com.templates ∧ (s.trip k c).template = s.template ∧
    (s.trip k c).com.armings = s.com.armings ∧ (s.trip k c).arming = s.arming := by
  generalize ht : (s.trip k c) = t
  unfold State.trip at ht
  try dsimp only at ht
  (repeat' split at ht) <;> subst ht <;> simp

@[simp] theorem State.deriveState_keeps (s : State) (k : Nat) (a b : Bool) :
    (s.deriveState k a b).pending = s.pending ∧ (s.deriveState k a b).resetHeld = s.resetHeld ∧
    (s.deriveState k a b).event = s.event ∧ (s.deriveState k a b).hnd = s.hnd ∧ (s.deriveState k a b).cls = s.cls ∧
    (s.deriveState k a b).unit = s.unit ∧ (s.deriveState k a b).console = s.console ∧
    (s.deriveState k a b).tim = s.tim ∧ (s.deriveState k a b).supervision = s.supervision ∧
    (s.deriveState k a b).reg.notices = s.reg.notices ∧ (s.deriveState k a b).trainNotice = s.trainNotice ∧
    (s.deriveState k a b).reg.outcomes = s.reg.outcomes ∧
    (s.deriveState k a b).reg.outcomeLoss = s.reg.outcomeLoss ∧ (s.deriveState k a b).pow.demand0 = s.pow.demand0 ∧
    (s.deriveState k a b).pow.demand1 = s.pow.demand1 ∧ (s.deriveState k a b).pow.demand2 = s.pow.demand2 ∧
    (s.deriveState k a b).pow.demand3 = s.pow.demand3 ∧ (s.deriveState k a b).inc.kinds = s.inc.kinds ∧
    (s.deriveState k a b).kind = s.kind ∧ (s.deriveState k a b).com.stations = s.com.stations ∧
    (s.deriveState k a b).station = s.station ∧ (s.deriveState k a b).com.templates = s.com.templates ∧
    (s.deriveState k a b).template = s.template ∧ (s.deriveState k a b).com.armings = s.com.armings ∧
    (s.deriveState k a b).arming = s.arming := by
  generalize ht : (s.deriveState k a b) = t
  unfold State.deriveState at ht
  try dsimp only at ht
  (repeat' split at ht) <;> subst ht <;> simp

@[simp] theorem State.overload_keeps (s : State) (k : Nat) :
    (s.overload k).pending = s.pending ∧ (s.overload k).resetHeld = s.resetHeld ∧ (s.overload k).event = s.event ∧
    (s.overload k).hnd = s.hnd ∧ (s.overload k).cls = s.cls ∧ (s.overload k).unit = s.unit ∧
    (s.overload k).console = s.console ∧ (s.overload k).tim = s.tim ∧ (s.overload k).supervision = s.supervision ∧
    (s.overload k).reg.notices = s.reg.notices ∧ (s.overload k).trainNotice = s.trainNotice ∧
    (s.overload k).reg.outcomes = s.reg.outcomes ∧ (s.overload k).reg.outcomeLoss = s.reg.outcomeLoss ∧
    (s.overload k).pow.demand0 = s.pow.demand0 ∧ (s.overload k).pow.demand1 = s.pow.demand1 ∧
    (s.overload k).pow.demand2 = s.pow.demand2 ∧ (s.overload k).pow.demand3 = s.pow.demand3 ∧
    (s.overload k).inc.kinds = s.inc.kinds ∧ (s.overload k).kind = s.kind ∧
    (s.overload k).com.stations = s.com.stations ∧ (s.overload k).station = s.station ∧
    (s.overload k).com.templates = s.com.templates ∧ (s.overload k).template = s.template ∧
    (s.overload k).com.armings = s.com.armings ∧ (s.overload k).arming = s.arming := by
  generalize ht : (s.overload k) = t
  unfold State.overload at ht
  try dsimp only at ht
  (repeat' split at ht) <;> subst ht <;> simp

@[simp] theorem State.handleSection_keeps (u : Nat) (es : List ReportEntry) (b : State) (s : State) (k : Nat) :
    (State.handleSection u es b s k).pending = s.pending ∧
    (State.handleSection u es b s k).resetHeld = s.resetHeld ∧ (State.handleSection u es b s k).event = s.event ∧
    (State.handleSection u es b s k).hnd = s.hnd ∧ (State.handleSection u es b s k).cls = s.cls ∧
    (State.handleSection u es b s k).unit = s.unit ∧ (State.handleSection u es b s k).console = s.console ∧
    (State.handleSection u es b s k).tim = s.tim ∧ (State.handleSection u es b s k).supervision = s.supervision ∧
    (State.handleSection u es b s k).reg.notices = s.reg.notices ∧
    (State.handleSection u es b s k).trainNotice = s.trainNotice ∧
    (State.handleSection u es b s k).reg.outcomes = s.reg.outcomes ∧
    (State.handleSection u es b s k).reg.outcomeLoss = s.reg.outcomeLoss ∧
    (State.handleSection u es b s k).pow.demand0 = s.pow.demand0 ∧
    (State.handleSection u es b s k).pow.demand1 = s.pow.demand1 ∧
    (State.handleSection u es b s k).pow.demand2 = s.pow.demand2 ∧
    (State.handleSection u es b s k).pow.demand3 = s.pow.demand3 ∧
    (State.handleSection u es b s k).inc.kinds = s.inc.kinds ∧ (State.handleSection u es b s k).kind = s.kind ∧
    (State.handleSection u es b s k).com.stations = s.com.stations ∧
    (State.handleSection u es b s k).station = s.station ∧
    (State.handleSection u es b s k).com.templates = s.com.templates ∧
    (State.handleSection u es b s k).template = s.template ∧
    (State.handleSection u es b s k).com.armings = s.com.armings ∧
    (State.handleSection u es b s k).arming = s.arming := by
  generalize ht : (State.handleSection u es b s k) = t
  unfold State.handleSection at ht
  try dsimp only at ht
  (repeat' split at ht) <;> subst ht <;> simp

@[simp] theorem State.feederReport_keeps (s : State) (u : Nat) (es : List ReportEntry) :
    (s.feederReport u es).pending = s.pending ∧ (s.feederReport u es).resetHeld = s.resetHeld ∧
    (s.feederReport u es).event = s.event ∧ (s.feederReport u es).hnd = s.hnd ∧ (s.feederReport u es).cls = s.cls ∧
    (s.feederReport u es).unit = s.unit ∧ (s.feederReport u es).console = s.console ∧
    (s.feederReport u es).tim = s.tim ∧ (s.feederReport u es).supervision = s.supervision ∧
    (s.feederReport u es).reg.notices = s.reg.notices ∧ (s.feederReport u es).trainNotice = s.trainNotice ∧
    (s.feederReport u es).reg.outcomes = s.reg.outcomes ∧
    (s.feederReport u es).reg.outcomeLoss = s.reg.outcomeLoss ∧ (s.feederReport u es).pow.demand0 = s.pow.demand0 ∧
    (s.feederReport u es).pow.demand1 = s.pow.demand1 ∧ (s.feederReport u es).pow.demand2 = s.pow.demand2 ∧
    (s.feederReport u es).pow.demand3 = s.pow.demand3 ∧ (s.feederReport u es).inc.kinds = s.inc.kinds ∧
    (s.feederReport u es).kind = s.kind ∧ (s.feederReport u es).com.stations = s.com.stations ∧
    (s.feederReport u es).station = s.station ∧ (s.feederReport u es).com.templates = s.com.templates ∧
    (s.feederReport u es).template = s.template ∧ (s.feederReport u es).com.armings = s.com.armings ∧
    (s.feederReport u es).arming = s.arming := by
  generalize ht : (s.feederReport u es) = t
  unfold State.feederReport at ht
  try dsimp only at ht
  (repeat' split at ht) <;> subst ht <;> simp

@[simp] theorem State.takeDeadline_keeps (s : State) (k : Nat) :
    (s.takeDeadline k).pending = s.pending ∧ (s.takeDeadline k).resetHeld = s.resetHeld ∧
    (s.takeDeadline k).event = s.event ∧ (s.takeDeadline k).hnd = s.hnd ∧ (s.takeDeadline k).cls = s.cls ∧
    (s.takeDeadline k).unit = s.unit ∧ (s.takeDeadline k).console = s.console ∧ (s.takeDeadline k).tim = s.tim ∧
    (s.takeDeadline k).supervision = s.supervision ∧ (s.takeDeadline k).reg.notices = s.reg.notices ∧
    (s.takeDeadline k).trainNotice = s.trainNotice ∧ (s.takeDeadline k).reg.outcomes = s.reg.outcomes ∧
    (s.takeDeadline k).reg.outcomeLoss = s.reg.outcomeLoss ∧ (s.takeDeadline k).pow.demand0 = s.pow.demand0 ∧
    (s.takeDeadline k).pow.demand1 = s.pow.demand1 ∧ (s.takeDeadline k).pow.demand2 = s.pow.demand2 ∧
    (s.takeDeadline k).pow.demand3 = s.pow.demand3 ∧ (s.takeDeadline k).inc.kinds = s.inc.kinds ∧
    (s.takeDeadline k).kind = s.kind ∧ (s.takeDeadline k).com.stations = s.com.stations ∧
    (s.takeDeadline k).station = s.station ∧ (s.takeDeadline k).com.templates = s.com.templates ∧
    (s.takeDeadline k).template = s.template ∧ (s.takeDeadline k).com.armings = s.com.armings ∧
    (s.takeDeadline k).arming = s.arming := by
  generalize ht : (s.takeDeadline k) = t
  unfold State.takeDeadline at ht
  try dsimp only at ht
  (repeat' split at ht) <;> subst ht <;> simp

@[simp] theorem State.loseMeasurement_keeps (s : State) (k : Nat) :
    (s.loseMeasurement k).pending = s.pending ∧ (s.loseMeasurement k).resetHeld = s.resetHeld ∧
    (s.loseMeasurement k).event = s.event ∧ (s.loseMeasurement k).hnd = s.hnd ∧ (s.loseMeasurement k).cls = s.cls ∧
    (s.loseMeasurement k).unit = s.unit ∧ (s.loseMeasurement k).console = s.console ∧
    (s.loseMeasurement k).tim = s.tim ∧ (s.loseMeasurement k).supervision = s.supervision ∧
    (s.loseMeasurement k).reg = s.reg ∧ (s.loseMeasurement k).slot = s.slot ∧
    (s.loseMeasurement k).trainNotice = s.trainNotice ∧ (s.loseMeasurement k).plat = s.plat ∧
    (s.loseMeasurement k).pow.feeders = s.pow.feeders ∧ (s.loseMeasurement k).feeder = s.feeder ∧
    (s.loseMeasurement k).pow.pool = s.pow.pool ∧ (s.loseMeasurement k).pool = s.pool ∧
    (s.loseMeasurement k).pow.demand0 = s.pow.demand0 ∧ (s.loseMeasurement k).pow.demand1 = s.pow.demand1 ∧
    (s.loseMeasurement k).pow.demand2 = s.pow.demand2 ∧ (s.loseMeasurement k).pow.demand3 = s.pow.demand3 ∧
    (s.loseMeasurement k).inc = s.inc ∧ (s.loseMeasurement k).kind = s.kind ∧
    (s.loseMeasurement k).incident = s.incident ∧ (s.loseMeasurement k).incNotice = s.incNotice ∧
    (s.loseMeasurement k).interlocked = s.interlocked ∧ (s.loseMeasurement k).fraction = s.fraction ∧
    (s.loseMeasurement k).platHeld = s.platHeld ∧ (s.loseMeasurement k).platHeadway = s.platHeadway ∧
    (s.loseMeasurement k).com = s.com ∧ (s.loseMeasurement k).station = s.station ∧
    (s.loseMeasurement k).template = s.template ∧ (s.loseMeasurement k).zone = s.zone ∧
    (s.loseMeasurement k).arming = s.arming ∧ (s.loseMeasurement k).fieldPort = s.fieldPort := by
  generalize ht : (s.loseMeasurement k) = t
  unfold State.loseMeasurement at ht
  try dsimp only at ht
  (repeat' split at ht) <;> subst ht <;> simp

@[simp] theorem State.silenceSubstation_keeps (s : State) (u : Nat) :
    (s.silenceSubstation u).pending = s.pending ∧ (s.silenceSubstation u).resetHeld = s.resetHeld ∧
    (s.silenceSubstation u).event = s.event ∧ (s.silenceSubstation u).hnd = s.hnd ∧
    (s.silenceSubstation u).cls = s.cls ∧ (s.silenceSubstation u).unit = s.unit ∧
    (s.silenceSubstation u).console = s.console ∧ (s.silenceSubstation u).tim = s.tim ∧
    (s.silenceSubstation u).supervision = s.supervision ∧ (s.silenceSubstation u).reg = s.reg ∧
    (s.silenceSubstation u).slot = s.slot ∧ (s.silenceSubstation u).trainNotice = s.trainNotice ∧
    (s.silenceSubstation u).plat = s.plat ∧ (s.silenceSubstation u).pow.pool = s.pow.pool ∧
    (s.silenceSubstation u).pool = s.pool ∧ (s.silenceSubstation u).pow.demand0 = s.pow.demand0 ∧
    (s.silenceSubstation u).pow.demand1 = s.pow.demand1 ∧ (s.silenceSubstation u).pow.demand2 = s.pow.demand2 ∧
    (s.silenceSubstation u).pow.demand3 = s.pow.demand3 ∧ (s.silenceSubstation u).inc = s.inc ∧
    (s.silenceSubstation u).kind = s.kind ∧ (s.silenceSubstation u).incident = s.incident ∧
    (s.silenceSubstation u).incNotice = s.incNotice ∧ (s.silenceSubstation u).interlocked = s.interlocked ∧
    (s.silenceSubstation u).fraction = s.fraction ∧ (s.silenceSubstation u).platHeld = s.platHeld ∧
    (s.silenceSubstation u).platHeadway = s.platHeadway ∧ (s.silenceSubstation u).com = s.com ∧
    (s.silenceSubstation u).station = s.station ∧ (s.silenceSubstation u).template = s.template ∧
    (s.silenceSubstation u).zone = s.zone ∧ (s.silenceSubstation u).arming = s.arming ∧
    (s.silenceSubstation u).fieldPort = s.fieldPort := by
  generalize ht : (s.silenceSubstation u) = t
  unfold State.silenceSubstation at ht
  try dsimp only at ht
  (repeat' split at ht) <;> subst ht <;> simp

@[simp] theorem State.stopSection_keeps (s : State) (k : Nat) :
    (s.stopSection k).pending = s.pending ∧ (s.stopSection k).resetHeld = s.resetHeld ∧
    (s.stopSection k).event = s.event ∧ (s.stopSection k).hnd = s.hnd ∧ (s.stopSection k).cls = s.cls ∧
    (s.stopSection k).unit = s.unit ∧ (s.stopSection k).console = s.console ∧ (s.stopSection k).tim = s.tim ∧
    (s.stopSection k).supervision = s.supervision ∧ (s.stopSection k).reg = s.reg ∧
    (s.stopSection k).slot = s.slot ∧ (s.stopSection k).trainNotice = s.trainNotice ∧
    (s.stopSection k).plat = s.plat ∧ (s.stopSection k).pow.feeders = s.pow.feeders ∧
    (s.stopSection k).feeder = s.feeder ∧ (s.stopSection k).pow.pool = s.pow.pool ∧
    (s.stopSection k).pool = s.pool ∧ (s.stopSection k).pow.demand0 = s.pow.demand0 ∧
    (s.stopSection k).pow.demand1 = s.pow.demand1 ∧ (s.stopSection k).pow.demand2 = s.pow.demand2 ∧
    (s.stopSection k).pow.demand3 = s.pow.demand3 ∧ (s.stopSection k).inc = s.inc ∧
    (s.stopSection k).kind = s.kind ∧ (s.stopSection k).incident = s.incident ∧
    (s.stopSection k).incNotice = s.incNotice ∧ (s.stopSection k).interlocked = s.interlocked ∧
    (s.stopSection k).fraction = s.fraction ∧ (s.stopSection k).platHeld = s.platHeld ∧
    (s.stopSection k).platHeadway = s.platHeadway ∧ (s.stopSection k).com = s.com ∧
    (s.stopSection k).station = s.station ∧ (s.stopSection k).template = s.template ∧
    (s.stopSection k).zone = s.zone ∧ (s.stopSection k).arming = s.arming ∧
    (s.stopSection k).fieldPort = s.fieldPort := by
  generalize ht : (s.stopSection k) = t
  unfold State.stopSection at ht
  try dsimp only at ht
  (repeat' split at ht) <;> subst ht <;> simp

@[simp] theorem State.emptyPool_keeps (s : State) :
    s.emptyPool.pending = s.pending ∧ s.emptyPool.resetHeld = s.resetHeld ∧ s.emptyPool.event = s.event ∧
    s.emptyPool.hnd = s.hnd ∧ s.emptyPool.cls = s.cls ∧ s.emptyPool.unit = s.unit ∧
    s.emptyPool.console = s.console ∧ s.emptyPool.tim = s.tim ∧ s.emptyPool.supervision = s.supervision ∧
    s.emptyPool.reg = s.reg ∧ s.emptyPool.slot = s.slot ∧ s.emptyPool.trainNotice = s.trainNotice ∧
    s.emptyPool.plat = s.plat ∧ s.emptyPool.pow.feeders = s.pow.feeders ∧ s.emptyPool.feeder = s.feeder ∧
    s.emptyPool.pow.demand0 = s.pow.demand0 ∧ s.emptyPool.pow.demand1 = s.pow.demand1 ∧
    s.emptyPool.pow.demand2 = s.pow.demand2 ∧ s.emptyPool.pow.demand3 = s.pow.demand3 ∧ s.emptyPool.inc = s.inc ∧
    s.emptyPool.kind = s.kind ∧ s.emptyPool.incident = s.incident ∧ s.emptyPool.incNotice = s.incNotice ∧
    s.emptyPool.interlocked = s.interlocked ∧ s.emptyPool.fraction = s.fraction ∧
    s.emptyPool.platHeld = s.platHeld ∧ s.emptyPool.platHeadway = s.platHeadway ∧ s.emptyPool.com = s.com ∧
    s.emptyPool.station = s.station ∧ s.emptyPool.template = s.template ∧ s.emptyPool.zone = s.zone ∧
    s.emptyPool.arming = s.arming ∧ s.emptyPool.fieldPort = s.fieldPort ∧ s.emptyPool.consolePort = s.consolePort := by
  generalize ht : s.emptyPool = t
  unfold State.emptyPool at ht
  try dsimp only at ht
  (repeat' split at ht) <;> subst ht <;> simp

@[simp] theorem State.stopPower_keeps (s : State) :
    s.stopPower.pending = s.pending ∧ s.stopPower.resetHeld = s.resetHeld ∧ s.stopPower.event = s.event ∧
    s.stopPower.hnd = s.hnd ∧ s.stopPower.cls = s.cls ∧ s.stopPower.unit = s.unit ∧
    s.stopPower.console = s.console ∧ s.stopPower.tim = s.tim ∧ s.stopPower.supervision = s.supervision ∧
    s.stopPower.reg = s.reg ∧ s.stopPower.slot = s.slot ∧ s.stopPower.trainNotice = s.trainNotice ∧
    s.stopPower.plat = s.plat ∧ s.stopPower.pow.demand0 = s.pow.demand0 ∧ s.stopPower.pow.demand1 = s.pow.demand1 ∧
    s.stopPower.pow.demand2 = s.pow.demand2 ∧ s.stopPower.pow.demand3 = s.pow.demand3 ∧ s.stopPower.inc = s.inc ∧
    s.stopPower.kind = s.kind ∧ s.stopPower.incident = s.incident ∧ s.stopPower.incNotice = s.incNotice ∧
    s.stopPower.interlocked = s.interlocked ∧ s.stopPower.fraction = s.fraction ∧
    s.stopPower.platHeld = s.platHeld ∧ s.stopPower.platHeadway = s.platHeadway ∧ s.stopPower.com = s.com ∧
    s.stopPower.station = s.station ∧ s.stopPower.template = s.template ∧ s.stopPower.zone = s.zone ∧
    s.stopPower.arming = s.arming ∧ s.stopPower.fieldPort = s.fieldPort := by
  generalize ht : s.stopPower = t
  unfold State.stopPower at ht
  try dsimp only at ht
  (repeat' split at ht) <;> subst ht <;> simp

/-! ## Zones -/

@[simp] theorem State.suspendPlaying_keeps (s : State) (k : Nat) :
    (s.suspendPlaying k).pending = s.pending ∧ (s.suspendPlaying k).resetHeld = s.resetHeld ∧
    (s.suspendPlaying k).event = s.event ∧ (s.suspendPlaying k).hnd = s.hnd ∧ (s.suspendPlaying k).cls = s.cls ∧
    (s.suspendPlaying k).unit = s.unit ∧ (s.suspendPlaying k).console = s.console ∧
    (s.suspendPlaying k).tim = s.tim ∧ (s.suspendPlaying k).supervision = s.supervision ∧
    (s.suspendPlaying k).reg = s.reg ∧ (s.suspendPlaying k).slot = s.slot ∧
    (s.suspendPlaying k).trainNotice = s.trainNotice ∧ (s.suspendPlaying k).plat = s.plat ∧
    (s.suspendPlaying k).pow = s.pow ∧ (s.suspendPlaying k).feeder = s.feeder ∧
    (s.suspendPlaying k).sect = s.sect ∧ (s.suspendPlaying k).pool = s.pool ∧ (s.suspendPlaying k).inc = s.inc ∧
    (s.suspendPlaying k).kind = s.kind ∧ (s.suspendPlaying k).incident = s.incident ∧
    (s.suspendPlaying k).incNotice = s.incNotice ∧ (s.suspendPlaying k).interlocked = s.interlocked ∧
    (s.suspendPlaying k).fraction = s.fraction ∧ (s.suspendPlaying k).platHeld = s.platHeld ∧
    (s.suspendPlaying k).platHeadway = s.platHeadway ∧ (s.suspendPlaying k).com.stations = s.com.stations ∧
    (s.suspendPlaying k).station = s.station ∧ (s.suspendPlaying k).com.templates = s.com.templates ∧
    (s.suspendPlaying k).template = s.template ∧ (s.suspendPlaying k).com.armings = s.com.armings ∧
    (s.suspendPlaying k).arming = s.arming ∧ (s.suspendPlaying k).com.zoneDrops = s.com.zoneDrops ∧
    (s.suspendPlaying k).fieldPort = s.fieldPort ∧ (s.suspendPlaying k).consolePort = s.consolePort := by
  generalize ht : (s.suspendPlaying k) = t
  unfold State.suspendPlaying at ht
  try dsimp only at ht
  (repeat' split at ht) <;> subst ht <;> simp

@[simp] theorem State.enterFault_keeps (s : State) (k : Nat) (c : FaultCause) (r : Raiser) :
    (s.enterFault k c r).pending = s.pending ∧ (s.enterFault k c r).resetHeld = s.resetHeld ∧
    (s.enterFault k c r).event = s.event ∧ (s.enterFault k c r).hnd = s.hnd ∧ (s.enterFault k c r).cls = s.cls ∧
    (s.enterFault k c r).unit = s.unit ∧ (s.enterFault k c r).console = s.console ∧
    (s.enterFault k c r).tim = s.tim ∧ (s.enterFault k c r).supervision = s.supervision ∧
    (s.enterFault k c r).reg.notices = s.reg.notices ∧ (s.enterFault k c r).trainNotice = s.trainNotice ∧
    (s.enterFault k c r).reg.outcomes = s.reg.outcomes ∧ (s.enterFault k c r).reg.outcomeLoss = s.reg.outcomeLoss ∧
    (s.enterFault k c r).pow.demand0 = s.pow.demand0 ∧ (s.enterFault k c r).pow.demand1 = s.pow.demand1 ∧
    (s.enterFault k c r).pow.demand2 = s.pow.demand2 ∧ (s.enterFault k c r).pow.demand3 = s.pow.demand3 ∧
    (s.enterFault k c r).inc.kinds = s.inc.kinds ∧ (s.enterFault k c r).kind = s.kind ∧
    (s.enterFault k c r).com.stations = s.com.stations ∧ (s.enterFault k c r).station = s.station ∧
    (s.enterFault k c r).com.templates = s.com.templates ∧ (s.enterFault k c r).template = s.template ∧
    (s.enterFault k c r).com.armings = s.com.armings ∧ (s.enterFault k c r).arming = s.arming := by
  generalize ht : (s.enterFault k c r) = t
  unfold State.enterFault at ht
  try dsimp only at ht
  (repeat' split at ht) <;> subst ht <;> simp

@[simp] theorem State.leaveFault_keeps (s : State) (k : Nat) :
    (s.leaveFault k).pending = s.pending ∧ (s.leaveFault k).resetHeld = s.resetHeld ∧
    (s.leaveFault k).event = s.event ∧ (s.leaveFault k).hnd = s.hnd ∧ (s.leaveFault k).cls = s.cls ∧
    (s.leaveFault k).unit = s.unit ∧ (s.leaveFault k).console = s.console ∧ (s.leaveFault k).tim = s.tim ∧
    (s.leaveFault k).supervision = s.supervision ∧ (s.leaveFault k).reg.notices = s.reg.notices ∧
    (s.leaveFault k).trainNotice = s.trainNotice ∧ (s.leaveFault k).reg.outcomes = s.reg.outcomes ∧
    (s.leaveFault k).reg.outcomeLoss = s.reg.outcomeLoss ∧ (s.leaveFault k).pow.demand0 = s.pow.demand0 ∧
    (s.leaveFault k).pow.demand1 = s.pow.demand1 ∧ (s.leaveFault k).pow.demand2 = s.pow.demand2 ∧
    (s.leaveFault k).pow.demand3 = s.pow.demand3 ∧ (s.leaveFault k).inc.kinds = s.inc.kinds ∧
    (s.leaveFault k).kind = s.kind ∧ (s.leaveFault k).inc.overflow = s.inc.overflow ∧
    (s.leaveFault k).com.stations = s.com.stations ∧ (s.leaveFault k).station = s.station ∧
    (s.leaveFault k).com.templates = s.com.templates ∧ (s.leaveFault k).template = s.template ∧
    (s.leaveFault k).com.armings = s.com.armings ∧ (s.leaveFault k).arming = s.arming := by
  generalize ht : (s.leaveFault k) = t
  unfold State.leaveFault at ht
  try dsimp only at ht
  (repeat' split at ht) <;> subst ht <;> simp

@[simp] theorem State.paFault_keeps (s : State) (a : Nat) (n : Option Nat) :
    (s.paFault a n).pending = s.pending ∧ (s.paFault a n).resetHeld = s.resetHeld ∧
    (s.paFault a n).event = s.event ∧ (s.paFault a n).hnd = s.hnd ∧ (s.paFault a n).cls = s.cls ∧
    (s.paFault a n).unit = s.unit ∧ (s.paFault a n).console = s.console ∧ (s.paFault a n).tim = s.tim ∧
    (s.paFault a n).supervision = s.supervision ∧ (s.paFault a n).reg.notices = s.reg.notices ∧
    (s.paFault a n).trainNotice = s.trainNotice ∧ (s.paFault a n).reg.outcomes = s.reg.outcomes ∧
    (s.paFault a n).reg.outcomeLoss = s.reg.outcomeLoss ∧ (s.paFault a n).pow.demand0 = s.pow.demand0 ∧
    (s.paFault a n).pow.demand1 = s.pow.demand1 ∧ (s.paFault a n).pow.demand2 = s.pow.demand2 ∧
    (s.paFault a n).pow.demand3 = s.pow.demand3 ∧ (s.paFault a n).inc.kinds = s.inc.kinds ∧
    (s.paFault a n).kind = s.kind ∧ (s.paFault a n).com.stations = s.com.stations ∧
    (s.paFault a n).station = s.station ∧ (s.paFault a n).com.templates = s.com.templates ∧
    (s.paFault a n).template = s.template ∧ (s.paFault a n).com.armings = s.com.armings ∧
    (s.paFault a n).arming = s.arming := by
  generalize ht : (s.paFault a n) = t
  unfold State.paFault at ht
  try dsimp only at ht
  (repeat' split at ht) <;> subst ht <;> simp

@[simp] theorem State.readyZone_keeps  (s : State) (k : Nat) :
    (State.readyZone  s k).pending = s.pending ∧ (State.readyZone  s k).resetHeld = s.resetHeld ∧
    (State.readyZone  s k).event = s.event ∧ (State.readyZone  s k).hnd = s.hnd ∧
    (State.readyZone  s k).cls = s.cls ∧ (State.readyZone  s k).unit = s.unit ∧
    (State.readyZone  s k).console = s.console ∧ (State.readyZone  s k).tim = s.tim ∧
    (State.readyZone  s k).supervision = s.supervision ∧ (State.readyZone  s k).reg.notices = s.reg.notices ∧
    (State.readyZone  s k).trainNotice = s.trainNotice ∧ (State.readyZone  s k).reg.outcomes = s.reg.outcomes ∧
    (State.readyZone  s k).reg.outcomeLoss = s.reg.outcomeLoss ∧
    (State.readyZone  s k).pow.demand0 = s.pow.demand0 ∧ (State.readyZone  s k).pow.demand1 = s.pow.demand1 ∧
    (State.readyZone  s k).pow.demand2 = s.pow.demand2 ∧ (State.readyZone  s k).pow.demand3 = s.pow.demand3 ∧
    (State.readyZone  s k).inc.kinds = s.inc.kinds ∧ (State.readyZone  s k).kind = s.kind ∧
    (State.readyZone  s k).inc.overflow = s.inc.overflow ∧ (State.readyZone  s k).com.stations = s.com.stations ∧
    (State.readyZone  s k).station = s.station ∧ (State.readyZone  s k).com.templates = s.com.templates ∧
    (State.readyZone  s k).template = s.template ∧ (State.readyZone  s k).com.armings = s.com.armings ∧
    (State.readyZone  s k).arming = s.arming := by
  generalize ht : (State.readyZone  s k) = t
  unfold State.readyZone at ht
  try dsimp only at ht
  (repeat' split at ht) <;> subst ht <;> simp

@[simp] theorem State.paReady_keeps (s : State) (a : Nat) (n : Option Nat) :
    (s.paReady a n).pending = s.pending ∧ (s.paReady a n).resetHeld = s.resetHeld ∧
    (s.paReady a n).event = s.event ∧ (s.paReady a n).hnd = s.hnd ∧ (s.paReady a n).cls = s.cls ∧
    (s.paReady a n).unit = s.unit ∧ (s.paReady a n).console = s.console ∧ (s.paReady a n).tim = s.tim ∧
    (s.paReady a n).supervision = s.supervision ∧ (s.paReady a n).reg.notices = s.reg.notices ∧
    (s.paReady a n).trainNotice = s.trainNotice ∧ (s.paReady a n).reg.outcomes = s.reg.outcomes ∧
    (s.paReady a n).reg.outcomeLoss = s.reg.outcomeLoss ∧ (s.paReady a n).pow.demand0 = s.pow.demand0 ∧
    (s.paReady a n).pow.demand1 = s.pow.demand1 ∧ (s.paReady a n).pow.demand2 = s.pow.demand2 ∧
    (s.paReady a n).pow.demand3 = s.pow.demand3 ∧ (s.paReady a n).inc.kinds = s.inc.kinds ∧
    (s.paReady a n).kind = s.kind ∧ (s.paReady a n).inc.overflow = s.inc.overflow ∧
    (s.paReady a n).com.stations = s.com.stations ∧ (s.paReady a n).station = s.station ∧
    (s.paReady a n).com.templates = s.com.templates ∧ (s.paReady a n).template = s.template ∧
    (s.paReady a n).com.armings = s.com.armings ∧ (s.paReady a n).arming = s.arming := by
  generalize ht : (s.paReady a n) = t
  unfold State.paReady at ht
  try dsimp only at ht
  (repeat' split at ht) <;> subst ht <;> simp

@[simp] theorem State.preemptAtBoundary_keeps (s : State) (k i : Nat) (l : Bool) :
    (s.preemptAtBoundary k i l).pending = s.pending ∧ (s.preemptAtBoundary k i l).resetHeld = s.resetHeld ∧
    (s.preemptAtBoundary k i l).event = s.event ∧ (s.preemptAtBoundary k i l).hnd = s.hnd ∧
    (s.preemptAtBoundary k i l).cls = s.cls ∧ (s.preemptAtBoundary k i l).unit = s.unit ∧
    (s.preemptAtBoundary k i l).console = s.console ∧ (s.preemptAtBoundary k i l).tim = s.tim ∧
    (s.preemptAtBoundary k i l).supervision = s.supervision ∧ (s.preemptAtBoundary k i l).reg = s.reg ∧
    (s.preemptAtBoundary k i l).slot = s.slot ∧ (s.preemptAtBoundary k i l).trainNotice = s.trainNotice ∧
    (s.preemptAtBoundary k i l).plat = s.plat ∧ (s.preemptAtBoundary k i l).pow = s.pow ∧
    (s.preemptAtBoundary k i l).feeder = s.feeder ∧ (s.preemptAtBoundary k i l).sect = s.sect ∧
    (s.preemptAtBoundary k i l).pool = s.pool ∧ (s.preemptAtBoundary k i l).inc = s.inc ∧
    (s.preemptAtBoundary k i l).kind = s.kind ∧ (s.preemptAtBoundary k i l).incident = s.incident ∧
    (s.preemptAtBoundary k i l).incNotice = s.incNotice ∧ (s.preemptAtBoundary k i l).interlocked = s.interlocked ∧
    (s.preemptAtBoundary k i l).fraction = s.fraction ∧ (s.preemptAtBoundary k i l).platHeld = s.platHeld ∧
    (s.preemptAtBoundary k i l).platHeadway = s.platHeadway ∧
    (s.preemptAtBoundary k i l).com.stations = s.com.stations ∧ (s.preemptAtBoundary k i l).station = s.station ∧
    (s.preemptAtBoundary k i l).com.templates = s.com.templates ∧
    (s.preemptAtBoundary k i l).template = s.template ∧ (s.preemptAtBoundary k i l).com.armings = s.com.armings ∧
    (s.preemptAtBoundary k i l).arming = s.arming ∧ (s.preemptAtBoundary k i l).com.zoneDrops = s.com.zoneDrops := by
  generalize ht : (s.preemptAtBoundary k i l) = t
  unfold State.preemptAtBoundary at ht
  try dsimp only at ht
  (repeat' split at ht) <;> subst ht <;> simp

@[simp] theorem State.markBoundary_keeps (s : State) (k : Nat) :
    (s.markBoundary k).pending = s.pending ∧ (s.markBoundary k).resetHeld = s.resetHeld ∧
    (s.markBoundary k).event = s.event ∧ (s.markBoundary k).hnd = s.hnd ∧ (s.markBoundary k).cls = s.cls ∧
    (s.markBoundary k).unit = s.unit ∧ (s.markBoundary k).console = s.console ∧ (s.markBoundary k).tim = s.tim ∧
    (s.markBoundary k).supervision = s.supervision ∧ (s.markBoundary k).reg = s.reg ∧ (s.markBoundary k).slot = s.slot ∧
    (s.markBoundary k).trainNotice = s.trainNotice ∧ (s.markBoundary k).plat = s.plat ∧ (s.markBoundary k).pow = s.pow ∧
    (s.markBoundary k).feeder = s.feeder ∧ (s.markBoundary k).sect = s.sect ∧ (s.markBoundary k).pool = s.pool ∧
    (s.markBoundary k).inc = s.inc ∧ (s.markBoundary k).kind = s.kind ∧ (s.markBoundary k).incident = s.incident ∧
    (s.markBoundary k).incNotice = s.incNotice ∧ (s.markBoundary k).interlocked = s.interlocked ∧
    (s.markBoundary k).fraction = s.fraction ∧ (s.markBoundary k).platHeld = s.platHeld ∧
    (s.markBoundary k).platHeadway = s.platHeadway ∧ (s.markBoundary k).com.stations = s.com.stations ∧
    (s.markBoundary k).station = s.station ∧ (s.markBoundary k).com.templates = s.com.templates ∧
    (s.markBoundary k).template = s.template ∧ (s.markBoundary k).com.armings = s.com.armings ∧
    (s.markBoundary k).arming = s.arming ∧ (s.markBoundary k).com.zoneDrops = s.com.zoneDrops ∧
    (s.markBoundary k).fieldPort = s.fieldPort ∧ (s.markBoundary k).consolePort = s.consolePort := by
  generalize ht : (s.markBoundary k) = t
  unfold State.markBoundary at ht
  try dsimp only at ht
  (repeat' split at ht) <;> subst ht <;> simp

@[simp] theorem State.frameEnds_keeps (s : State) (k t i : Nat) :
    (s.frameEnds k t i).pending = s.pending ∧ (s.frameEnds k t i).resetHeld = s.resetHeld ∧
    (s.frameEnds k t i).event = s.event ∧ (s.frameEnds k t i).hnd = s.hnd ∧ (s.frameEnds k t i).cls = s.cls ∧
    (s.frameEnds k t i).unit = s.unit ∧ (s.frameEnds k t i).console = s.console ∧ (s.frameEnds k t i).tim = s.tim ∧
    (s.frameEnds k t i).supervision = s.supervision ∧ (s.frameEnds k t i).reg = s.reg ∧
    (s.frameEnds k t i).slot = s.slot ∧ (s.frameEnds k t i).trainNotice = s.trainNotice ∧
    (s.frameEnds k t i).plat = s.plat ∧ (s.frameEnds k t i).pow = s.pow ∧ (s.frameEnds k t i).feeder = s.feeder ∧
    (s.frameEnds k t i).sect = s.sect ∧ (s.frameEnds k t i).pool = s.pool ∧ (s.frameEnds k t i).inc = s.inc ∧
    (s.frameEnds k t i).kind = s.kind ∧ (s.frameEnds k t i).incident = s.incident ∧
    (s.frameEnds k t i).incNotice = s.incNotice ∧ (s.frameEnds k t i).interlocked = s.interlocked ∧
    (s.frameEnds k t i).fraction = s.fraction ∧ (s.frameEnds k t i).platHeld = s.platHeld ∧
    (s.frameEnds k t i).platHeadway = s.platHeadway ∧ (s.frameEnds k t i).com.stations = s.com.stations ∧
    (s.frameEnds k t i).station = s.station ∧ (s.frameEnds k t i).com.templates = s.com.templates ∧
    (s.frameEnds k t i).template = s.template ∧ (s.frameEnds k t i).com.armings = s.com.armings ∧
    (s.frameEnds k t i).arming = s.arming ∧ (s.frameEnds k t i).com.zoneDrops = s.com.zoneDrops := by
  generalize ht : (s.frameEnds k t i) = t
  unfold State.frameEnds at ht
  try dsimp only at ht
  (repeat' split at ht) <;> subst ht <;> simp

@[simp] theorem State.frameDone_keeps (s : State) (k t i : Nat) :
    (s.frameDone k t i).pending = s.pending ∧ (s.frameDone k t i).resetHeld = s.resetHeld ∧
    (s.frameDone k t i).event = s.event ∧ (s.frameDone k t i).hnd = s.hnd ∧ (s.frameDone k t i).cls = s.cls ∧
    (s.frameDone k t i).unit = s.unit ∧ (s.frameDone k t i).console = s.console ∧ (s.frameDone k t i).tim = s.tim ∧
    (s.frameDone k t i).supervision = s.supervision ∧ (s.frameDone k t i).reg = s.reg ∧
    (s.frameDone k t i).slot = s.slot ∧ (s.frameDone k t i).trainNotice = s.trainNotice ∧
    (s.frameDone k t i).plat = s.plat ∧ (s.frameDone k t i).pow = s.pow ∧ (s.frameDone k t i).feeder = s.feeder ∧
    (s.frameDone k t i).sect = s.sect ∧ (s.frameDone k t i).pool = s.pool ∧ (s.frameDone k t i).inc = s.inc ∧
    (s.frameDone k t i).kind = s.kind ∧ (s.frameDone k t i).incident = s.incident ∧
    (s.frameDone k t i).incNotice = s.incNotice ∧ (s.frameDone k t i).interlocked = s.interlocked ∧
    (s.frameDone k t i).fraction = s.fraction ∧ (s.frameDone k t i).platHeld = s.platHeld ∧
    (s.frameDone k t i).platHeadway = s.platHeadway ∧ (s.frameDone k t i).com.stations = s.com.stations ∧
    (s.frameDone k t i).station = s.station ∧ (s.frameDone k t i).com.templates = s.com.templates ∧
    (s.frameDone k t i).template = s.template ∧ (s.frameDone k t i).com.armings = s.com.armings ∧
    (s.frameDone k t i).arming = s.arming ∧ (s.frameDone k t i).com.zoneDrops = s.com.zoneDrops := by
  generalize ht : (s.frameDone k t i) = t
  unfold State.frameDone at ht
  try dsimp only at ht
  (repeat' split at ht) <;> subst ht <;> simp

@[simp] theorem State.paBusy_keeps (s : State) (k : Nat) :
    (s.paBusy k).pending = s.pending ∧ (s.paBusy k).resetHeld = s.resetHeld ∧ (s.paBusy k).event = s.event ∧
    (s.paBusy k).hnd = s.hnd ∧ (s.paBusy k).cls = s.cls ∧ (s.paBusy k).unit = s.unit ∧
    (s.paBusy k).console = s.console ∧ (s.paBusy k).tim = s.tim ∧ (s.paBusy k).supervision = s.supervision ∧
    (s.paBusy k).reg = s.reg ∧ (s.paBusy k).slot = s.slot ∧ (s.paBusy k).trainNotice = s.trainNotice ∧
    (s.paBusy k).plat = s.plat ∧ (s.paBusy k).pow = s.pow ∧ (s.paBusy k).feeder = s.feeder ∧
    (s.paBusy k).sect = s.sect ∧ (s.paBusy k).pool = s.pool ∧ (s.paBusy k).inc = s.inc ∧
    (s.paBusy k).kind = s.kind ∧ (s.paBusy k).incident = s.incident ∧ (s.paBusy k).incNotice = s.incNotice ∧
    (s.paBusy k).interlocked = s.interlocked ∧ (s.paBusy k).fraction = s.fraction ∧
    (s.paBusy k).platHeld = s.platHeld ∧ (s.paBusy k).platHeadway = s.platHeadway ∧
    (s.paBusy k).com.stations = s.com.stations ∧ (s.paBusy k).station = s.station ∧
    (s.paBusy k).com.templates = s.com.templates ∧ (s.paBusy k).template = s.template ∧
    (s.paBusy k).com.armings = s.com.armings ∧ (s.paBusy k).arming = s.arming ∧
    (s.paBusy k).com.zoneDrops = s.com.zoneDrops := by
  generalize ht : (s.paBusy k) = t
  unfold State.paBusy at ht
  try dsimp only at ht
  (repeat' split at ht) <;> subst ht <;> simp

@[simp] theorem State.frameDeadline_keeps (s : State) (k : Nat) :
    (s.frameDeadline k).pending = s.pending ∧ (s.frameDeadline k).resetHeld = s.resetHeld ∧
    (s.frameDeadline k).event = s.event ∧ (s.frameDeadline k).hnd = s.hnd ∧ (s.frameDeadline k).cls = s.cls ∧
    (s.frameDeadline k).unit = s.unit ∧ (s.frameDeadline k).console = s.console ∧ (s.frameDeadline k).tim = s.tim ∧
    (s.frameDeadline k).supervision = s.supervision ∧ (s.frameDeadline k).reg.notices = s.reg.notices ∧
    (s.frameDeadline k).trainNotice = s.trainNotice ∧ (s.frameDeadline k).reg.outcomes = s.reg.outcomes ∧
    (s.frameDeadline k).reg.outcomeLoss = s.reg.outcomeLoss ∧ (s.frameDeadline k).pow.demand0 = s.pow.demand0 ∧
    (s.frameDeadline k).pow.demand1 = s.pow.demand1 ∧ (s.frameDeadline k).pow.demand2 = s.pow.demand2 ∧
    (s.frameDeadline k).pow.demand3 = s.pow.demand3 ∧ (s.frameDeadline k).inc.kinds = s.inc.kinds ∧
    (s.frameDeadline k).kind = s.kind ∧ (s.frameDeadline k).com.stations = s.com.stations ∧
    (s.frameDeadline k).station = s.station ∧ (s.frameDeadline k).com.templates = s.com.templates ∧
    (s.frameDeadline k).template = s.template ∧ (s.frameDeadline k).com.armings = s.com.armings ∧
    (s.frameDeadline k).arming = s.arming := by
  generalize ht : (s.frameDeadline k) = t
  unfold State.frameDeadline at ht
  try dsimp only at ht
  (repeat' split at ht) <;> subst ht <;> simp

@[simp] theorem State.gapEnds_keeps (s : State) (k : Nat) :
    (s.gapEnds k).pending = s.pending ∧ (s.gapEnds k).resetHeld = s.resetHeld ∧ (s.gapEnds k).event = s.event ∧
    (s.gapEnds k).hnd = s.hnd ∧ (s.gapEnds k).cls = s.cls ∧ (s.gapEnds k).unit = s.unit ∧
    (s.gapEnds k).console = s.console ∧ (s.gapEnds k).tim = s.tim ∧ (s.gapEnds k).supervision = s.supervision ∧
    (s.gapEnds k).reg = s.reg ∧ (s.gapEnds k).slot = s.slot ∧ (s.gapEnds k).trainNotice = s.trainNotice ∧
    (s.gapEnds k).plat = s.plat ∧ (s.gapEnds k).pow = s.pow ∧ (s.gapEnds k).feeder = s.feeder ∧
    (s.gapEnds k).sect = s.sect ∧ (s.gapEnds k).pool = s.pool ∧ (s.gapEnds k).inc = s.inc ∧
    (s.gapEnds k).kind = s.kind ∧ (s.gapEnds k).incident = s.incident ∧ (s.gapEnds k).incNotice = s.incNotice ∧
    (s.gapEnds k).interlocked = s.interlocked ∧ (s.gapEnds k).fraction = s.fraction ∧
    (s.gapEnds k).platHeld = s.platHeld ∧ (s.gapEnds k).platHeadway = s.platHeadway ∧
    (s.gapEnds k).com.stations = s.com.stations ∧ (s.gapEnds k).station = s.station ∧
    (s.gapEnds k).com.templates = s.com.templates ∧ (s.gapEnds k).template = s.template ∧
    (s.gapEnds k).com.armings = s.com.armings ∧ (s.gapEnds k).arming = s.arming ∧
    (s.gapEnds k).com.zoneDrops = s.com.zoneDrops ∧ (s.gapEnds k).consolePort = s.consolePort := by
  generalize ht : (s.gapEnds k) = t
  unfold State.gapEnds at ht
  try dsimp only at ht
  (repeat' split at ht) <;> subst ht <;> simp

@[simp] theorem State.stopZone_keeps (s : State) (k : Nat) :
    (s.stopZone k).pending = s.pending ∧ (s.stopZone k).resetHeld = s.resetHeld ∧ (s.stopZone k).event = s.event ∧
    (s.stopZone k).hnd = s.hnd ∧ (s.stopZone k).cls = s.cls ∧ (s.stopZone k).unit = s.unit ∧
    (s.stopZone k).console = s.console ∧ (s.stopZone k).tim = s.tim ∧ (s.stopZone k).supervision = s.supervision ∧
    (s.stopZone k).reg = s.reg ∧ (s.stopZone k).slot = s.slot ∧ (s.stopZone k).trainNotice = s.trainNotice ∧
    (s.stopZone k).plat = s.plat ∧ (s.stopZone k).pow = s.pow ∧ (s.stopZone k).feeder = s.feeder ∧
    (s.stopZone k).sect = s.sect ∧ (s.stopZone k).pool = s.pool ∧ (s.stopZone k).inc = s.inc ∧
    (s.stopZone k).kind = s.kind ∧ (s.stopZone k).incident = s.incident ∧ (s.stopZone k).incNotice = s.incNotice ∧
    (s.stopZone k).interlocked = s.interlocked ∧ (s.stopZone k).fraction = s.fraction ∧
    (s.stopZone k).platHeld = s.platHeld ∧ (s.stopZone k).platHeadway = s.platHeadway ∧
    (s.stopZone k).com.stations = s.com.stations ∧ (s.stopZone k).station = s.station ∧
    (s.stopZone k).com.templates = s.com.templates ∧ (s.stopZone k).template = s.template ∧
    (s.stopZone k).com.armings = s.com.armings ∧ (s.stopZone k).arming = s.arming ∧
    (s.stopZone k).com.zoneDrops = s.com.zoneDrops ∧ (s.stopZone k).consolePort = s.consolePort := by
  generalize ht : (s.stopZone k) = t
  unfold State.stopZone at ht
  try dsimp only at ht
  (repeat' split at ht) <;> subst ht <;> simp

/-! ## Classifier -/

@[simp] theorem State.refresh_keeps (s : State) (a : Nat) :
    (s.refresh a).pending = s.pending ∧ (s.refresh a).resetHeld = s.resetHeld ∧ (s.refresh a).event = s.event ∧
    (s.refresh a).hnd = s.hnd ∧ (s.refresh a).cls = s.cls ∧ (s.refresh a).unit = s.unit ∧
    (s.refresh a).console = s.console ∧ (s.refresh a).tim.lineTime = s.tim.lineTime ∧
    (s.refresh a).tim.clockSet = s.tim.clockSet ∧ (s.refresh a).tim.slew = s.tim.slew ∧
    (s.refresh a).tim.phase = s.tim.phase ∧ (s.refresh a).tim.interval = s.tim.interval ∧
    (s.refresh a).tim.waiting = s.tim.waiting ∧ (s.refresh a).tim.correctionDue = s.tim.correctionDue ∧
    (s.refresh a).tim.withhold = s.tim.withhold ∧ (s.refresh a).tim.displayDue = s.tim.displayDue ∧
    (s.refresh a).tim.publishDue = s.tim.publishDue ∧ (s.refresh a).reg.notices = s.reg.notices ∧
    (s.refresh a).trainNotice = s.trainNotice ∧ (s.refresh a).reg.platforms = s.reg.platforms ∧
    (s.refresh a).plat = s.plat ∧ (s.refresh a).reg.outcomes = s.reg.outcomes ∧
    (s.refresh a).reg.outcomeLoss = s.reg.outcomeLoss ∧ (s.refresh a).pow = s.pow ∧
    (s.refresh a).feeder = s.feeder ∧ (s.refresh a).sect = s.sect ∧ (s.refresh a).pool = s.pool ∧
    (s.refresh a).inc = s.inc ∧ (s.refresh a).kind = s.kind ∧ (s.refresh a).incident = s.incident ∧
    (s.refresh a).incNotice = s.incNotice ∧ (s.refresh a).interlocked = s.interlocked ∧
    (s.refresh a).fraction = s.fraction ∧ (s.refresh a).platHeld = s.platHeld ∧
    (s.refresh a).platHeadway = s.platHeadway ∧ (s.refresh a).com = s.com ∧ (s.refresh a).station = s.station ∧
    (s.refresh a).template = s.template ∧ (s.refresh a).zone = s.zone ∧ (s.refresh a).arming = s.arming ∧
    (s.refresh a).fieldPort = s.fieldPort ∧ (s.refresh a).consolePort = s.consolePort := by
  generalize ht : (s.refresh a) = t
  unfold State.refresh at ht
  try dsimp only at ht
  (repeat' split at ht) <;> subst ht <;> simp

@[simp] theorem State.hearZone_keeps (s : State) (k : Nat) :
    (s.hearZone k).pending = s.pending ∧ (s.hearZone k).resetHeld = s.resetHeld ∧ (s.hearZone k).event = s.event ∧
    (s.hearZone k).hnd = s.hnd ∧ (s.hearZone k).cls = s.cls ∧ (s.hearZone k).unit = s.unit ∧
    (s.hearZone k).console = s.console ∧ (s.hearZone k).tim = s.tim ∧ (s.hearZone k).supervision = s.supervision ∧
    (s.hearZone k).reg.notices = s.reg.notices ∧ (s.hearZone k).trainNotice = s.trainNotice ∧
    (s.hearZone k).reg.outcomes = s.reg.outcomes ∧ (s.hearZone k).reg.outcomeLoss = s.reg.outcomeLoss ∧
    (s.hearZone k).pow.demand0 = s.pow.demand0 ∧ (s.hearZone k).pow.demand1 = s.pow.demand1 ∧
    (s.hearZone k).pow.demand2 = s.pow.demand2 ∧ (s.hearZone k).pow.demand3 = s.pow.demand3 ∧
    (s.hearZone k).inc.kinds = s.inc.kinds ∧ (s.hearZone k).kind = s.kind ∧
    (s.hearZone k).inc.overflow = s.inc.overflow ∧ (s.hearZone k).com.stations = s.com.stations ∧
    (s.hearZone k).station = s.station ∧ (s.hearZone k).com.templates = s.com.templates ∧
    (s.hearZone k).template = s.template ∧ (s.hearZone k).com.armings = s.com.armings ∧
    (s.hearZone k).arming = s.arming := by
  generalize ht : (s.hearZone k) = t
  unfold State.hearZone at ht
  try dsimp only at ht
  (repeat' split at ht) <;> subst ht <;> simp

@[simp] theorem State.handSilenceEnd_keeps (s : State) (a : Nat) (u : UnitEntry) :
    (s.handSilenceEnd a u).pending = s.pending ∧ (s.handSilenceEnd a u).resetHeld = s.resetHeld ∧
    (s.handSilenceEnd a u).event = s.event ∧ (s.handSilenceEnd a u).hnd = s.hnd ∧
    (s.handSilenceEnd a u).cls = s.cls ∧ (s.handSilenceEnd a u).unit = s.unit ∧
    (s.handSilenceEnd a u).console = s.console ∧ (s.handSilenceEnd a u).tim = s.tim ∧
    (s.handSilenceEnd a u).supervision = s.supervision ∧ (s.handSilenceEnd a u).reg.notices = s.reg.notices ∧
    (s.handSilenceEnd a u).trainNotice = s.trainNotice ∧ (s.handSilenceEnd a u).reg.outcomes = s.reg.outcomes ∧
    (s.handSilenceEnd a u).reg.outcomeLoss = s.reg.outcomeLoss ∧
    (s.handSilenceEnd a u).pow.demand0 = s.pow.demand0 ∧ (s.handSilenceEnd a u).pow.demand1 = s.pow.demand1 ∧
    (s.handSilenceEnd a u).pow.demand2 = s.pow.demand2 ∧ (s.handSilenceEnd a u).pow.demand3 = s.pow.demand3 ∧
    (s.handSilenceEnd a u).inc.kinds = s.inc.kinds ∧ (s.handSilenceEnd a u).kind = s.kind ∧
    (s.handSilenceEnd a u).inc.overflow = s.inc.overflow ∧ (s.handSilenceEnd a u).com.stations = s.com.stations ∧
    (s.handSilenceEnd a u).station = s.station ∧ (s.handSilenceEnd a u).com.templates = s.com.templates ∧
    (s.handSilenceEnd a u).template = s.template ∧ (s.handSilenceEnd a u).com.armings = s.com.armings ∧
    (s.handSilenceEnd a u).arming = s.arming := by
  generalize ht : (s.handSilenceEnd a u) = t
  unfold State.handSilenceEnd at ht
  try dsimp only at ht
  (repeat' split at ht) <;> subst ht <;> simp

@[simp] theorem State.endSilence_keeps (s : State) (a : Nat) (r : Option Nat) :
    (s.endSilence a r).pending = s.pending ∧ (s.endSilence a r).resetHeld = s.resetHeld ∧
    (s.endSilence a r).event = s.event ∧ (s.endSilence a r).hnd = s.hnd ∧ (s.endSilence a r).cls = s.cls ∧
    (s.endSilence a r).unit = s.unit ∧ (s.endSilence a r).console = s.console ∧
    (s.endSilence a r).tim.lineTime = s.tim.lineTime ∧ (s.endSilence a r).tim.clockSet = s.tim.clockSet ∧
    (s.endSilence a r).tim.slew = s.tim.slew ∧ (s.endSilence a r).tim.phase = s.tim.phase ∧
    (s.endSilence a r).tim.interval = s.tim.interval ∧ (s.endSilence a r).tim.waiting = s.tim.waiting ∧
    (s.endSilence a r).tim.correctionDue = s.tim.correctionDue ∧ (s.endSilence a r).tim.withhold = s.tim.withhold ∧
    (s.endSilence a r).tim.displayDue = s.tim.displayDue ∧ (s.endSilence a r).tim.publishDue = s.tim.publishDue ∧
    (s.endSilence a r).reg.outcomes = s.reg.outcomes ∧ (s.endSilence a r).reg.outcomeLoss = s.reg.outcomeLoss ∧
    (s.endSilence a r).pow.demand0 = s.pow.demand0 ∧ (s.endSilence a r).pow.demand1 = s.pow.demand1 ∧
    (s.endSilence a r).pow.demand2 = s.pow.demand2 ∧ (s.endSilence a r).pow.demand3 = s.pow.demand3 ∧
    (s.endSilence a r).inc.kinds = s.inc.kinds ∧ (s.endSilence a r).kind = s.kind ∧
    (s.endSilence a r).inc.overflow = s.inc.overflow ∧ (s.endSilence a r).com.stations = s.com.stations ∧
    (s.endSilence a r).station = s.station ∧ (s.endSilence a r).com.templates = s.com.templates ∧
    (s.endSilence a r).template = s.template ∧ (s.endSilence a r).com.armings = s.com.armings ∧
    (s.endSilence a r).arming = s.arming := by
  generalize ht : (s.endSilence a r) = t
  unfold State.endSilence at ht
  try dsimp only at ht
  (repeat' split at ht) <;> subst ht <;> simp

@[simp] theorem State.forward_keeps (s : State) (f : Frame) :
    (s.forward f).pending = s.pending ∧ (s.forward f).resetHeld = s.resetHeld ∧ (s.forward f).event = s.event ∧
    (s.forward f).hnd = s.hnd ∧ (s.forward f).cls = s.cls ∧ (s.forward f).unit = s.unit ∧
    (s.forward f).console = s.console ∧ (s.forward f).tim = s.tim ∧ (s.forward f).supervision = s.supervision ∧
    (s.forward f).reg = s.reg ∧ (s.forward f).slot = s.slot ∧ (s.forward f).trainNotice = s.trainNotice ∧
    (s.forward f).plat = s.plat ∧ (s.forward f).pow = s.pow ∧ (s.forward f).feeder = s.feeder ∧
    (s.forward f).sect = s.sect ∧ (s.forward f).pool = s.pool ∧ (s.forward f).inc = s.inc ∧
    (s.forward f).kind = s.kind ∧ (s.forward f).incident = s.incident ∧ (s.forward f).incNotice = s.incNotice ∧
    (s.forward f).interlocked = s.interlocked ∧ (s.forward f).fraction = s.fraction ∧
    (s.forward f).platHeld = s.platHeld ∧ (s.forward f).platHeadway = s.platHeadway ∧ (s.forward f).com = s.com ∧
    (s.forward f).station = s.station ∧ (s.forward f).template = s.template ∧ (s.forward f).zone = s.zone ∧
    (s.forward f).arming = s.arming ∧ (s.forward f).fieldPort = s.fieldPort := by
  generalize ht : (s.forward f) = t
  unfold State.forward at ht
  try dsimp only at ht
  (repeat' split at ht) <;> subst ht <;> simp

@[simp] theorem State.heard_keeps (s : State) (f : Frame) (r : Option Nat) :
    (s.heard f r).pending = s.pending ∧ (s.heard f r).resetHeld = s.resetHeld ∧ (s.heard f r).event = s.event ∧
    (s.heard f r).hnd = s.hnd ∧ (s.heard f r).cls = s.cls ∧ (s.heard f r).unit = s.unit ∧
    (s.heard f r).console = s.console ∧ (s.heard f r).tim.lineTime = s.tim.lineTime ∧
    (s.heard f r).tim.clockSet = s.tim.clockSet ∧ (s.heard f r).tim.slew = s.tim.slew ∧
    (s.heard f r).tim.phase = s.tim.phase ∧ (s.heard f r).tim.interval = s.tim.interval ∧
    (s.heard f r).tim.waiting = s.tim.waiting ∧ (s.heard f r).tim.correctionDue = s.tim.correctionDue ∧
    (s.heard f r).tim.withhold = s.tim.withhold ∧ (s.heard f r).tim.displayDue = s.tim.displayDue ∧
    (s.heard f r).tim.publishDue = s.tim.publishDue ∧ (s.heard f r).reg.outcomes = s.reg.outcomes ∧
    (s.heard f r).reg.outcomeLoss = s.reg.outcomeLoss ∧ (s.heard f r).pow.demand0 = s.pow.demand0 ∧
    (s.heard f r).pow.demand1 = s.pow.demand1 ∧ (s.heard f r).pow.demand2 = s.pow.demand2 ∧
    (s.heard f r).pow.demand3 = s.pow.demand3 ∧ (s.heard f r).inc.kinds = s.inc.kinds ∧
    (s.heard f r).kind = s.kind ∧ (s.heard f r).inc.overflow = s.inc.overflow ∧
    (s.heard f r).com.stations = s.com.stations ∧ (s.heard f r).station = s.station ∧
    (s.heard f r).com.templates = s.com.templates ∧ (s.heard f r).template = s.template ∧
    (s.heard f r).com.armings = s.com.armings ∧ (s.heard f r).arming = s.arming := by
  generalize ht : (s.heard f r) = t
  unfold State.heard at ht
  try dsimp only at ht
  (repeat' split at ht) <;> subst ht <;> simp

@[simp] theorem State.countMismatch_keeps (s : State) (f : Frame) :
    (s.countMismatch f).pending = s.pending ∧ (s.countMismatch f).resetHeld = s.resetHeld ∧
    (s.countMismatch f).event = s.event ∧ (s.countMismatch f).hnd = s.hnd ∧
    (s.countMismatch f).cls.units = s.cls.units ∧ (s.countMismatch f).unit = s.unit ∧
    (s.countMismatch f).cls.consoles = s.cls.consoles ∧ (s.countMismatch f).console = s.console ∧
    (s.countMismatch f).cls.unknownSource = s.cls.unknownSource ∧ (s.countMismatch f).tim = s.tim ∧
    (s.countMismatch f).supervision = s.supervision ∧ (s.countMismatch f).reg = s.reg ∧
    (s.countMismatch f).slot = s.slot ∧ (s.countMismatch f).trainNotice = s.trainNotice ∧
    (s.countMismatch f).plat = s.plat ∧ (s.countMismatch f).pow = s.pow ∧ (s.countMismatch f).feeder = s.feeder ∧
    (s.countMismatch f).sect = s.sect ∧ (s.countMismatch f).pool = s.pool ∧ (s.countMismatch f).inc = s.inc ∧
    (s.countMismatch f).kind = s.kind ∧ (s.countMismatch f).incident = s.incident ∧
    (s.countMismatch f).incNotice = s.incNotice ∧ (s.countMismatch f).interlocked = s.interlocked ∧
    (s.countMismatch f).fraction = s.fraction ∧ (s.countMismatch f).platHeld = s.platHeld ∧
    (s.countMismatch f).platHeadway = s.platHeadway ∧ (s.countMismatch f).com = s.com ∧
    (s.countMismatch f).station = s.station ∧ (s.countMismatch f).template = s.template ∧
    (s.countMismatch f).zone = s.zone ∧ (s.countMismatch f).arming = s.arming ∧
    (s.countMismatch f).fieldPort = s.fieldPort ∧ (s.countMismatch f).consolePort = s.consolePort := by
  generalize ht : (s.countMismatch f) = t
  unfold State.countMismatch at ht
  try dsimp only at ht
  (repeat' split at ht) <;> subst ht <;> simp

@[simp] theorem State.countUnknown_keeps (s : State) :
    s.countUnknown.pending = s.pending ∧ s.countUnknown.resetHeld = s.resetHeld ∧ s.countUnknown.event = s.event ∧
    s.countUnknown.hnd = s.hnd ∧ s.countUnknown.cls.units = s.cls.units ∧ s.countUnknown.unit = s.unit ∧
    s.countUnknown.cls.consoles = s.cls.consoles ∧ s.countUnknown.console = s.console ∧
    s.countUnknown.cls.roleMismatch = s.cls.roleMismatch ∧ s.countUnknown.tim = s.tim ∧
    s.countUnknown.supervision = s.supervision ∧ s.countUnknown.reg = s.reg ∧ s.countUnknown.slot = s.slot ∧
    s.countUnknown.trainNotice = s.trainNotice ∧ s.countUnknown.plat = s.plat ∧ s.countUnknown.pow = s.pow ∧
    s.countUnknown.feeder = s.feeder ∧ s.countUnknown.sect = s.sect ∧ s.countUnknown.pool = s.pool ∧
    s.countUnknown.inc = s.inc ∧ s.countUnknown.kind = s.kind ∧ s.countUnknown.incident = s.incident ∧
    s.countUnknown.incNotice = s.incNotice ∧ s.countUnknown.interlocked = s.interlocked ∧
    s.countUnknown.fraction = s.fraction ∧ s.countUnknown.platHeld = s.platHeld ∧
    s.countUnknown.platHeadway = s.platHeadway ∧ s.countUnknown.com = s.com ∧ s.countUnknown.station = s.station ∧
    s.countUnknown.template = s.template ∧ s.countUnknown.zone = s.zone ∧ s.countUnknown.arming = s.arming ∧
    s.countUnknown.fieldPort = s.fieldPort ∧ s.countUnknown.consolePort = s.consolePort := by
  generalize ht : s.countUnknown = t
  unfold State.countUnknown at ht
  try dsimp only at ht
  (repeat' split at ht) <;> subst ht <;> simp

@[simp] theorem State.pop_keeps (s : State) (p : Port) :
    (s.pop p).pending = s.pending ∧ (s.pop p).resetHeld = s.resetHeld ∧ (s.pop p).event = s.event ∧
    (s.pop p).hnd = s.hnd ∧ (s.pop p).cls = s.cls ∧ (s.pop p).unit = s.unit ∧ (s.pop p).console = s.console ∧
    (s.pop p).tim = s.tim ∧ (s.pop p).supervision = s.supervision ∧ (s.pop p).reg = s.reg ∧
    (s.pop p).slot = s.slot ∧ (s.pop p).trainNotice = s.trainNotice ∧ (s.pop p).plat = s.plat ∧
    (s.pop p).pow = s.pow ∧ (s.pop p).feeder = s.feeder ∧ (s.pop p).sect = s.sect ∧ (s.pop p).pool = s.pool ∧
    (s.pop p).inc = s.inc ∧ (s.pop p).kind = s.kind ∧ (s.pop p).incident = s.incident ∧
    (s.pop p).incNotice = s.incNotice ∧ (s.pop p).interlocked = s.interlocked ∧ (s.pop p).fraction = s.fraction ∧
    (s.pop p).platHeld = s.platHeld ∧ (s.pop p).platHeadway = s.platHeadway ∧ (s.pop p).com = s.com ∧
    (s.pop p).station = s.station ∧ (s.pop p).template = s.template ∧ (s.pop p).zone = s.zone ∧
    (s.pop p).arming = s.arming := by
  generalize ht : (s.pop p) = t
  unfold State.pop at ht
  try dsimp only at ht
  (repeat' split at ht) <;> subst ht <;> simp

@[simp] theorem State.pop_field (s : State)  : (s.pop .field).consolePort = s.consolePort := by
  generalize ht : s.pop .field = t
  unfold State.pop at ht
  try dsimp only at ht
  (repeat' split at ht) <;> subst ht <;> simp

@[simp] theorem State.pop_console (s : State)  : (s.pop .console).fieldPort = s.fieldPort := by
  generalize ht : s.pop .console = t
  unfold State.pop at ht
  try dsimp only at ht
  (repeat' split at ht) <;> subst ht <;> simp

@[simp] theorem State.pass_keeps (s : State) (f : Frame) :
    (s.pass f).pending = s.pending ∧ (s.pass f).resetHeld = s.resetHeld ∧ (s.pass f).event = s.event ∧
    (s.pass f).hnd = s.hnd ∧ (s.pass f).cls = s.cls ∧ (s.pass f).unit = s.unit ∧ (s.pass f).console = s.console ∧
    (s.pass f).tim = s.tim ∧ (s.pass f).supervision = s.supervision ∧ (s.pass f).reg = s.reg ∧
    (s.pass f).slot = s.slot ∧ (s.pass f).trainNotice = s.trainNotice ∧ (s.pass f).plat = s.plat ∧
    (s.pass f).pow = s.pow ∧ (s.pass f).feeder = s.feeder ∧ (s.pass f).sect = s.sect ∧ (s.pass f).pool = s.pool ∧
    (s.pass f).inc = s.inc ∧ (s.pass f).kind = s.kind ∧ (s.pass f).incident = s.incident ∧
    (s.pass f).incNotice = s.incNotice ∧ (s.pass f).interlocked = s.interlocked ∧
    (s.pass f).fraction = s.fraction ∧ (s.pass f).platHeld = s.platHeld ∧ (s.pass f).platHeadway = s.platHeadway ∧
    (s.pass f).com = s.com ∧ (s.pass f).station = s.station ∧ (s.pass f).template = s.template ∧
    (s.pass f).zone = s.zone ∧ (s.pass f).arming = s.arming ∧ (s.pass f).consolePort = s.consolePort := by
  generalize ht : (s.pass f) = t
  unfold State.pass at ht
  try dsimp only at ht
  (repeat' split at ht) <;> subst ht <;> simp

@[simp] theorem State.refuse_keeps (s : State) (c : Sender) (f : Frame) (r : Reason) :
    (s.refuse c f r).pending = s.pending ∧ (s.refuse c f r).resetHeld = s.resetHeld ∧
    (s.refuse c f r).event = s.event ∧ (s.refuse c f r).hnd.op = s.hnd.op ∧ (s.refuse c f r).cls = s.cls ∧
    (s.refuse c f r).unit = s.unit ∧ (s.refuse c f r).console = s.console ∧ (s.refuse c f r).tim = s.tim ∧
    (s.refuse c f r).supervision = s.supervision ∧ (s.refuse c f r).reg = s.reg ∧ (s.refuse c f r).slot = s.slot ∧
    (s.refuse c f r).trainNotice = s.trainNotice ∧ (s.refuse c f r).plat = s.plat ∧ (s.refuse c f r).pow = s.pow ∧
    (s.refuse c f r).feeder = s.feeder ∧ (s.refuse c f r).sect = s.sect ∧ (s.refuse c f r).pool = s.pool ∧
    (s.refuse c f r).inc = s.inc ∧ (s.refuse c f r).kind = s.kind ∧ (s.refuse c f r).incident = s.incident ∧
    (s.refuse c f r).incNotice = s.incNotice ∧ (s.refuse c f r).interlocked = s.interlocked ∧
    (s.refuse c f r).fraction = s.fraction ∧ (s.refuse c f r).platHeld = s.platHeld ∧
    (s.refuse c f r).platHeadway = s.platHeadway ∧ (s.refuse c f r).com = s.com ∧
    (s.refuse c f r).station = s.station ∧ (s.refuse c f r).template = s.template ∧
    (s.refuse c f r).zone = s.zone ∧ (s.refuse c f r).arming = s.arming ∧ (s.refuse c f r).fieldPort = s.fieldPort := by
  generalize ht : (s.refuse c f r) = t
  unfold State.refuse at ht
  try dsimp only at ht
  (repeat' split at ht) <;> subst ht <;> simp

@[simp] theorem State.markPermit_keeps (s : State) (f : Frame) :
    (s.markPermit f).pending = s.pending ∧ (s.markPermit f).resetHeld = s.resetHeld ∧
    (s.markPermit f).event = s.event ∧ (s.markPermit f).hnd = s.hnd ∧ (s.markPermit f).cls = s.cls ∧
    (s.markPermit f).unit = s.unit ∧ (s.markPermit f).console = s.console ∧ (s.markPermit f).tim = s.tim ∧
    (s.markPermit f).supervision = s.supervision ∧ (s.markPermit f).reg.notices = s.reg.notices ∧
    (s.markPermit f).trainNotice = s.trainNotice ∧ (s.markPermit f).reg.platforms = s.reg.platforms ∧
    (s.markPermit f).plat = s.plat ∧ (s.markPermit f).reg.outcomes = s.reg.outcomes ∧
    (s.markPermit f).reg.outcomeLoss = s.reg.outcomeLoss ∧ (s.markPermit f).pow = s.pow ∧
    (s.markPermit f).feeder = s.feeder ∧ (s.markPermit f).sect = s.sect ∧ (s.markPermit f).pool = s.pool ∧
    (s.markPermit f).inc = s.inc ∧ (s.markPermit f).kind = s.kind ∧ (s.markPermit f).incident = s.incident ∧
    (s.markPermit f).incNotice = s.incNotice ∧ (s.markPermit f).interlocked = s.interlocked ∧
    (s.markPermit f).fraction = s.fraction ∧ (s.markPermit f).platHeld = s.platHeld ∧
    (s.markPermit f).platHeadway = s.platHeadway ∧ (s.markPermit f).com = s.com ∧
    (s.markPermit f).station = s.station ∧ (s.markPermit f).template = s.template ∧
    (s.markPermit f).zone = s.zone ∧ (s.markPermit f).arming = s.arming ∧
    (s.markPermit f).fieldPort = s.fieldPort ∧ (s.markPermit f).consolePort = s.consolePort := by
  generalize ht : (s.markPermit f) = t
  unfold State.markPermit at ht
  try dsimp only at ht
  (repeat' split at ht) <;> subst ht <;> simp

/-! ## Timing -/

@[simp] theorem State.publish_keeps (s : State) :
    s.publish.pending = s.pending ∧ s.publish.resetHeld = s.resetHeld ∧ s.publish.event = s.event ∧
    s.publish.hnd = s.hnd ∧ s.publish.cls = s.cls ∧ s.publish.unit = s.unit ∧ s.publish.console = s.console ∧
    s.publish.tim.lineTime = s.tim.lineTime ∧ s.publish.tim.clockSet = s.tim.clockSet ∧
    s.publish.tim.slew = s.tim.slew ∧ s.publish.tim.phase = s.tim.phase ∧ s.publish.tim.interval = s.tim.interval ∧
    s.publish.tim.supervision = s.tim.supervision ∧ s.publish.supervision = s.supervision ∧
    s.publish.tim.correctionDue = s.tim.correctionDue ∧ s.publish.tim.withhold = s.tim.withhold ∧
    s.publish.tim.displayDue = s.tim.displayDue ∧ s.publish.tim.publishDue = s.tim.publishDue ∧
    s.publish.reg = s.reg ∧ s.publish.slot = s.slot ∧ s.publish.trainNotice = s.trainNotice ∧
    s.publish.plat = s.plat ∧ s.publish.pow = s.pow ∧ s.publish.feeder = s.feeder ∧ s.publish.sect = s.sect ∧
    s.publish.pool = s.pool ∧ s.publish.inc = s.inc ∧ s.publish.kind = s.kind ∧ s.publish.incident = s.incident ∧
    s.publish.incNotice = s.incNotice ∧ s.publish.interlocked = s.interlocked ∧ s.publish.fraction = s.fraction ∧
    s.publish.platHeld = s.platHeld ∧ s.publish.platHeadway = s.platHeadway ∧ s.publish.com = s.com ∧
    s.publish.station = s.station ∧ s.publish.template = s.template ∧ s.publish.zone = s.zone ∧
    s.publish.arming = s.arming ∧ s.publish.consolePort = s.consolePort := by
  generalize ht : s.publish = t
  unfold State.publish at ht
  try dsimp only at ht
  (repeat' split at ht) <;> subst ht <;> simp

@[simp] theorem State.expire_keeps (s : State) (a : Nat) :
    (s.expire a).pending = s.pending ∧ (s.expire a).resetHeld = s.resetHeld ∧ (s.expire a).event = s.event ∧
    (s.expire a).hnd = s.hnd ∧ (s.expire a).cls = s.cls ∧ (s.expire a).unit = s.unit ∧
    (s.expire a).console = s.console ∧ (s.expire a).tim.lineTime = s.tim.lineTime ∧
    (s.expire a).tim.clockSet = s.tim.clockSet ∧ (s.expire a).tim.slew = s.tim.slew ∧
    (s.expire a).tim.phase = s.tim.phase ∧ (s.expire a).tim.interval = s.tim.interval ∧
    (s.expire a).tim.waiting = s.tim.waiting ∧ (s.expire a).tim.correctionDue = s.tim.correctionDue ∧
    (s.expire a).tim.withhold = s.tim.withhold ∧ (s.expire a).tim.displayDue = s.tim.displayDue ∧
    (s.expire a).tim.publishDue = s.tim.publishDue ∧ (s.expire a).reg.outcomes = s.reg.outcomes ∧
    (s.expire a).reg.outcomeLoss = s.reg.outcomeLoss ∧ (s.expire a).pow.demand0 = s.pow.demand0 ∧
    (s.expire a).pow.demand1 = s.pow.demand1 ∧ (s.expire a).pow.demand2 = s.pow.demand2 ∧
    (s.expire a).pow.demand3 = s.pow.demand3 ∧ (s.expire a).inc.kinds = s.inc.kinds ∧ (s.expire a).kind = s.kind ∧
    (s.expire a).com.stations = s.com.stations ∧ (s.expire a).station = s.station ∧
    (s.expire a).com.templates = s.com.templates ∧ (s.expire a).template = s.template ∧
    (s.expire a).com.armings = s.com.armings ∧ (s.expire a).arming = s.arming := by
  generalize ht : (s.expire a) = t
  unfold State.expire at ht
  try dsimp only at ht
  (repeat' split at ht) <;> subst ht <;> simp

@[simp] theorem State.restartTimer_keeps  (s : State) (a : Nat) :
    (State.restartTimer  s a).pending = s.pending ∧ (State.restartTimer  s a).resetHeld = s.resetHeld ∧
    (State.restartTimer  s a).event = s.event ∧ (State.restartTimer  s a).hnd = s.hnd ∧
    (State.restartTimer  s a).cls = s.cls ∧ (State.restartTimer  s a).unit = s.unit ∧
    (State.restartTimer  s a).console = s.console ∧ (State.restartTimer  s a).tim.lineTime = s.tim.lineTime ∧
    (State.restartTimer  s a).tim.clockSet = s.tim.clockSet ∧ (State.restartTimer  s a).tim.slew = s.tim.slew ∧
    (State.restartTimer  s a).tim.phase = s.tim.phase ∧ (State.restartTimer  s a).tim.interval = s.tim.interval ∧
    (State.restartTimer  s a).tim.waiting = s.tim.waiting ∧
    (State.restartTimer  s a).tim.correctionDue = s.tim.correctionDue ∧
    (State.restartTimer  s a).tim.withhold = s.tim.withhold ∧
    (State.restartTimer  s a).tim.displayDue = s.tim.displayDue ∧
    (State.restartTimer  s a).tim.publishDue = s.tim.publishDue ∧
    (State.restartTimer  s a).reg.notices = s.reg.notices ∧ (State.restartTimer  s a).trainNotice = s.trainNotice ∧
    (State.restartTimer  s a).reg.platforms = s.reg.platforms ∧ (State.restartTimer  s a).plat = s.plat ∧
    (State.restartTimer  s a).reg.outcomes = s.reg.outcomes ∧
    (State.restartTimer  s a).reg.outcomeLoss = s.reg.outcomeLoss ∧ (State.restartTimer  s a).pow = s.pow ∧
    (State.restartTimer  s a).feeder = s.feeder ∧ (State.restartTimer  s a).sect = s.sect ∧
    (State.restartTimer  s a).pool = s.pool ∧ (State.restartTimer  s a).inc = s.inc ∧
    (State.restartTimer  s a).kind = s.kind ∧ (State.restartTimer  s a).incident = s.incident ∧
    (State.restartTimer  s a).incNotice = s.incNotice ∧ (State.restartTimer  s a).interlocked = s.interlocked ∧
    (State.restartTimer  s a).fraction = s.fraction ∧ (State.restartTimer  s a).platHeld = s.platHeld ∧
    (State.restartTimer  s a).platHeadway = s.platHeadway ∧ (State.restartTimer  s a).com = s.com ∧
    (State.restartTimer  s a).station = s.station ∧ (State.restartTimer  s a).template = s.template ∧
    (State.restartTimer  s a).zone = s.zone ∧ (State.restartTimer  s a).arming = s.arming ∧
    (State.restartTimer  s a).fieldPort = s.fieldPort ∧ (State.restartTimer  s a).consolePort = s.consolePort := by
  generalize ht : (State.restartTimer  s a) = t
  unfold State.restartTimer at ht
  try dsimp only at ht
  (repeat' split at ht) <;> subst ht <;> simp

@[simp] theorem State.restartTimers_keeps (s : State) :
    s.restartTimers.pending = s.pending ∧ s.restartTimers.resetHeld = s.resetHeld ∧
    s.restartTimers.event = s.event ∧ s.restartTimers.hnd = s.hnd ∧ s.restartTimers.cls = s.cls ∧
    s.restartTimers.unit = s.unit ∧ s.restartTimers.console = s.console ∧
    s.restartTimers.tim.lineTime = s.tim.lineTime ∧ s.restartTimers.tim.clockSet = s.tim.clockSet ∧
    s.restartTimers.tim.slew = s.tim.slew ∧ s.restartTimers.tim.phase = s.tim.phase ∧
    s.restartTimers.tim.interval = s.tim.interval ∧ s.restartTimers.tim.waiting = s.tim.waiting ∧
    s.restartTimers.tim.correctionDue = s.tim.correctionDue ∧ s.restartTimers.tim.withhold = s.tim.withhold ∧
    s.restartTimers.tim.displayDue = s.tim.displayDue ∧ s.restartTimers.tim.publishDue = s.tim.publishDue ∧
    s.restartTimers.reg.notices = s.reg.notices ∧ s.restartTimers.trainNotice = s.trainNotice ∧
    s.restartTimers.reg.platforms = s.reg.platforms ∧ s.restartTimers.plat = s.plat ∧
    s.restartTimers.reg.outcomes = s.reg.outcomes ∧ s.restartTimers.reg.outcomeLoss = s.reg.outcomeLoss ∧
    s.restartTimers.pow = s.pow ∧ s.restartTimers.feeder = s.feeder ∧ s.restartTimers.sect = s.sect ∧
    s.restartTimers.pool = s.pool ∧ s.restartTimers.inc = s.inc ∧ s.restartTimers.kind = s.kind ∧
    s.restartTimers.incident = s.incident ∧ s.restartTimers.incNotice = s.incNotice ∧
    s.restartTimers.interlocked = s.interlocked ∧ s.restartTimers.fraction = s.fraction ∧
    s.restartTimers.platHeld = s.platHeld ∧ s.restartTimers.platHeadway = s.platHeadway ∧
    s.restartTimers.com = s.com ∧ s.restartTimers.station = s.station ∧ s.restartTimers.template = s.template ∧
    s.restartTimers.zone = s.zone ∧ s.restartTimers.arming = s.arming ∧ s.restartTimers.fieldPort = s.fieldPort ∧
    s.restartTimers.consolePort = s.consolePort := by
  generalize ht : s.restartTimers = t
  unfold State.restartTimers at ht
  try dsimp only at ht
  (repeat' split at ht) <;> subst ht <;> simp

@[simp] theorem State.stopRegulator_keeps (s : State) :
    s.stopRegulator.pending = s.pending ∧ s.stopRegulator.resetHeld = s.resetHeld ∧
    s.stopRegulator.event = s.event ∧ s.stopRegulator.hnd = s.hnd ∧ s.stopRegulator.cls = s.cls ∧
    s.stopRegulator.unit = s.unit ∧ s.stopRegulator.console = s.console ∧ s.stopRegulator.tim = s.tim ∧
    s.stopRegulator.supervision = s.supervision ∧ s.stopRegulator.reg.notices = s.reg.notices ∧
    s.stopRegulator.trainNotice = s.trainNotice ∧ s.stopRegulator.reg.outcomes = s.reg.outcomes ∧
    s.stopRegulator.reg.outcomeLoss = s.reg.outcomeLoss ∧ s.stopRegulator.pow = s.pow ∧
    s.stopRegulator.feeder = s.feeder ∧ s.stopRegulator.sect = s.sect ∧ s.stopRegulator.pool = s.pool ∧
    s.stopRegulator.inc = s.inc ∧ s.stopRegulator.kind = s.kind ∧ s.stopRegulator.incident = s.incident ∧
    s.stopRegulator.incNotice = s.incNotice ∧ s.stopRegulator.interlocked = s.interlocked ∧
    s.stopRegulator.fraction = s.fraction ∧ s.stopRegulator.platHeld = s.platHeld ∧
    s.stopRegulator.platHeadway = s.platHeadway ∧ s.stopRegulator.com = s.com ∧
    s.stopRegulator.station = s.station ∧ s.stopRegulator.template = s.template ∧ s.stopRegulator.zone = s.zone ∧
    s.stopRegulator.arming = s.arming ∧ s.stopRegulator.fieldPort = s.fieldPort ∧
    s.stopRegulator.consolePort = s.consolePort := by
  generalize ht : s.stopRegulator = t
  unfold State.stopRegulator at ht
  try dsimp only at ht
  (repeat' split at ht) <;> subst ht <;> simp

@[simp] theorem State.renewDeadline_keeps (s : State) (i : Nat) :
    (s.renewDeadline i).pending = s.pending ∧ (s.renewDeadline i).resetHeld = s.resetHeld ∧
    (s.renewDeadline i).event = s.event ∧ (s.renewDeadline i).hnd = s.hnd ∧ (s.renewDeadline i).cls = s.cls ∧
    (s.renewDeadline i).unit = s.unit ∧ (s.renewDeadline i).console = s.console ∧ (s.renewDeadline i).tim = s.tim ∧
    (s.renewDeadline i).supervision = s.supervision ∧ (s.renewDeadline i).reg = s.reg ∧
    (s.renewDeadline i).slot = s.slot ∧ (s.renewDeadline i).trainNotice = s.trainNotice ∧
    (s.renewDeadline i).plat = s.plat ∧ (s.renewDeadline i).pow = s.pow ∧ (s.renewDeadline i).feeder = s.feeder ∧
    (s.renewDeadline i).sect = s.sect ∧ (s.renewDeadline i).pool = s.pool ∧
    (s.renewDeadline i).inc.kinds = s.inc.kinds ∧ (s.renewDeadline i).kind = s.kind ∧
    (s.renewDeadline i).inc.cleared = s.inc.cleared ∧ (s.renewDeadline i).inc.nextNumber = s.inc.nextNumber ∧
    (s.renewDeadline i).inc.overflow = s.inc.overflow ∧ (s.renewDeadline i).inc.notices = s.inc.notices ∧
    (s.renewDeadline i).incNotice = s.incNotice ∧ (s.renewDeadline i).inc.order = s.inc.order ∧
    (s.renewDeadline i).inc.interlock = s.inc.interlock ∧ (s.renewDeadline i).interlocked = s.interlocked ∧
    (s.renewDeadline i).inc.fraction = s.inc.fraction ∧ (s.renewDeadline i).fraction = s.fraction ∧
    (s.renewDeadline i).inc.held = s.inc.held ∧ (s.renewDeadline i).platHeld = s.platHeld ∧
    (s.renewDeadline i).inc.headway = s.inc.headway ∧ (s.renewDeadline i).platHeadway = s.platHeadway ∧
    (s.renewDeadline i).com = s.com ∧ (s.renewDeadline i).station = s.station ∧
    (s.renewDeadline i).template = s.template ∧ (s.renewDeadline i).zone = s.zone ∧
    (s.renewDeadline i).arming = s.arming ∧ (s.renewDeadline i).fieldPort = s.fieldPort ∧
    (s.renewDeadline i).consolePort = s.consolePort := by
  generalize ht : (s.renewDeadline i) = t
  unfold State.renewDeadline at ht
  try dsimp only at ht
  (repeat' split at ht) <;> subst ht <;> simp

@[simp] theorem State.wakeDeadline_keeps (s : State) (i : Nat) :
    (s.wakeDeadline i).pending = s.pending ∧ (s.wakeDeadline i).resetHeld = s.resetHeld ∧
    (s.wakeDeadline i).event = s.event ∧ (s.wakeDeadline i).hnd = s.hnd ∧ (s.wakeDeadline i).cls = s.cls ∧
    (s.wakeDeadline i).unit = s.unit ∧ (s.wakeDeadline i).console = s.console ∧ (s.wakeDeadline i).tim = s.tim ∧
    (s.wakeDeadline i).supervision = s.supervision ∧ (s.wakeDeadline i).reg = s.reg ∧
    (s.wakeDeadline i).slot = s.slot ∧ (s.wakeDeadline i).trainNotice = s.trainNotice ∧
    (s.wakeDeadline i).plat = s.plat ∧ (s.wakeDeadline i).pow = s.pow ∧ (s.wakeDeadline i).feeder = s.feeder ∧
    (s.wakeDeadline i).sect = s.sect ∧ (s.wakeDeadline i).pool = s.pool ∧
    (s.wakeDeadline i).inc.kinds = s.inc.kinds ∧ (s.wakeDeadline i).kind = s.kind ∧
    (s.wakeDeadline i).inc.cleared = s.inc.cleared ∧ (s.wakeDeadline i).inc.nextNumber = s.inc.nextNumber ∧
    (s.wakeDeadline i).inc.overflow = s.inc.overflow ∧ (s.wakeDeadline i).inc.notices = s.inc.notices ∧
    (s.wakeDeadline i).incNotice = s.incNotice ∧ (s.wakeDeadline i).inc.order = s.inc.order ∧
    (s.wakeDeadline i).inc.interlock = s.inc.interlock ∧ (s.wakeDeadline i).interlocked = s.interlocked ∧
    (s.wakeDeadline i).inc.fraction = s.inc.fraction ∧ (s.wakeDeadline i).fraction = s.fraction ∧
    (s.wakeDeadline i).inc.held = s.inc.held ∧ (s.wakeDeadline i).platHeld = s.platHeld ∧
    (s.wakeDeadline i).inc.headway = s.inc.headway ∧ (s.wakeDeadline i).platHeadway = s.platHeadway ∧
    (s.wakeDeadline i).com = s.com ∧ (s.wakeDeadline i).station = s.station ∧
    (s.wakeDeadline i).template = s.template ∧ (s.wakeDeadline i).zone = s.zone ∧
    (s.wakeDeadline i).arming = s.arming ∧ (s.wakeDeadline i).fieldPort = s.fieldPort ∧
    (s.wakeDeadline i).consolePort = s.consolePort := by
  generalize ht : (s.wakeDeadline i) = t
  unfold State.wakeDeadline at ht
  try dsimp only at ht
  (repeat' split at ht) <;> subst ht <;> simp

end Sys2Proof.Machine
end

