-- ==== Sys2Proof/Laws/Events.lean ====
section
/-! SUPPORT. What one event does around its owner: the room lists at its end (`prune`), the taking of a console or field frame,
the REPLY, and a field frame's stages. A claim about a request or a field telegram cites these and then speaks of the owner
alone. -/

namespace Sys2Proof.Machine

/-! ## The end of an event -/

/-- What a block holds does not depend on the ports. -/
@[simp] theorem State.holds_setPort (s : State) (p : Port) (v : PortState) : (s.setPort p v).holds = s.holds := by
  funext p' q b
  cases p <;> rfl

@[simp] theorem State.holds_pruneOne (s : State) (p : Port) (q : Lane) : (s.pruneOne p q).holds = s.holds := by
  simp [State.pruneOne]

@[simp] theorem State.holds_prune (s : State) : s.prune.holds = s.holds := by simp [State.prune]

/-- At the end of an event a port is as it was, but for the blocks that hold nothing more for its queues (R185). -/
theorem State.prune_port (s : State) (p : Port) : s.prune.port p =
    { s.port p with urgentRoom := (s.port p).urgentRoom.filter (s.holds p .urgent),
                    normalRoom := (s.port p).normalRoom.filter (s.holds p .normal) } := by
  have h : ∀ (t : State) (p p' : Port) (q : Lane), (t.pruneOne p q).port p' =
      if p' = p then (t.port p).setRoom q (((t.port p).room q).filter (t.holds p q)) else t.port p' := by
    intro t p p' q
    cases p <;> cases p' <;> simp [State.pruneOne, State.port, State.setPort]
  cases p <;> simp [State.prune, h, PortState.room, PortState.setRoom]

@[simp] theorem State.prune_fieldPort (s : State) : s.prune.fieldPort =
    { s.fieldPort with urgentRoom := s.fieldPort.urgentRoom.filter (s.holds .field .urgent),
                       normalRoom := s.fieldPort.normalRoom.filter (s.holds .field .normal) } := s.prune_port .field

@[simp] theorem State.prune_consolePort (s : State) : s.prune.consolePort =
    { s.consolePort with urgentRoom := s.consolePort.urgentRoom.filter (s.holds .console .urgent),
                         normalRoom := s.consolePort.normalRoom.filter (s.holds .console .normal) } := s.prune_port .console

/-- What an event has left alone before its end: blocks and ports exactly. -/
def State.leaves (s u : State) (ps : List Part) : Prop :=
  u.pending = s.pending ∧ u.resetHeld = s.resetHeld ∧ u.event = s.event + 1 ∧
  (.hnd ∉ ps → u.hnd = s.hnd) ∧ (.cls ∉ ps → u.cls = s.cls) ∧ (.tim ∉ ps → u.tim = s.tim) ∧ (.reg ∉ ps → u.reg = s.reg) ∧
  (.pow ∉ ps → u.pow = s.pow) ∧ (.inc ∉ ps → u.inc = s.inc) ∧ (.com ∉ ps → u.com = s.com) ∧
  (.fieldPort ∉ ps → u.fieldPort = s.fieldPort) ∧ (.consolePort ∉ ps → u.consolePort = s.consolePort)

theorem State.leaves.onlyChanges {s u : State} {ps : List Part} (h : s.leaves u ps) : s.onlyChanges u.prune ps := by
  obtain ⟨h1, h2, h3, h4, h5, h6, h7, h8, h9, h10, h11, h12⟩ := h
  refine ⟨by simpa using h1, by simpa using h2, by simpa using h3, ?_⟩
  intro x hx
  cases x <;> simp_all [State.kept, State.portKept]

/-- The parts an event may change can be named more generously. -/
theorem State.onlyChanges.mono {s t : State} {ps qs : List Part} (h : s.onlyChanges t ps) (hs : ps ⊆ qs) :
    s.onlyChanges t qs := ⟨h.1, h.2.1, h.2.2.1, fun x hx => h.2.2.2 x (fun hp => hx (hs hp))⟩

/-! ## Taking a frame -/

/-- The state in which an event that takes the front frame of a port begins to act. -/
def State.opened (s : State) (p : Port) : State := State.pop { s with event := s.event + 1 } p

@[simp] theorem State.opened_event (s : State) (p : Port) : (s.opened p).event = s.event + 1 := by simp [State.opened]

@[simp] theorem State.opened_keeps (s : State) (p : Port) :
    (s.opened p).pending = s.pending ∧ (s.opened p).resetHeld = s.resetHeld ∧ (s.opened p).hnd = s.hnd ∧
    (s.opened p).cls = s.cls ∧ (s.opened p).tim = s.tim ∧ (s.opened p).reg = s.reg ∧ (s.opened p).pow = s.pow ∧
    (s.opened p).inc = s.inc ∧ (s.opened p).com = s.com ∧
    (s.opened p).unit = s.unit ∧ (s.opened p).console = s.console ∧ (s.opened p).supervision = s.supervision ∧
    (s.opened p).slot = s.slot ∧ (s.opened p).trainNotice = s.trainNotice ∧ (s.opened p).plat = s.plat ∧
    (s.opened p).feeder = s.feeder ∧ (s.opened p).sect = s.sect ∧ (s.opened p).pool = s.pool ∧
    (s.opened p).kind = s.kind ∧ (s.opened p).incident = s.incident ∧ (s.opened p).incNotice = s.incNotice ∧
    (s.opened p).interlocked = s.interlocked ∧ (s.opened p).fraction = s.fraction ∧ (s.opened p).platHeld = s.platHeld ∧
    (s.opened p).platHeadway = s.platHeadway ∧ (s.opened p).station = s.station ∧ (s.opened p).template = s.template ∧
    (s.opened p).zone = s.zone ∧ (s.opened p).arming = s.arming := by
  cases p <;> simp [State.opened]

@[simp] theorem State.opened_fieldPort_of_console (s : State) : (s.opened .console).fieldPort = s.fieldPort := by
  simp [State.opened]
@[simp] theorem State.opened_consolePort_of_field (s : State) : (s.opened .field).consolePort = s.consolePort := by
  simp [State.opened]
@[simp] theorem State.opened_consolePort (s : State) :
    (s.opened .console).consolePort = { s.consolePort with fifo := s.consolePort.fifo.drop 1 } := by
  simp [State.opened, State.pop, State.port, State.setPort]
@[simp] theorem State.opened_fieldPort (s : State) :
    (s.opened .field).fieldPort = { s.fieldPort with fifo := s.fieldPort.fifo.drop 1 } := by
  simp [State.opened, State.pop, State.port, State.setPort]

/-- A frame at the front of the console FIFO is taken only while the reply hold is empty (R182). -/
theorem State.front_console {s : State} {f : Frame} (h : s.front .console = some f) :
    s.resetHeld = false ∧ s.hnd.replyHold = none ∧ s.consolePort.fifo.head? = some f := by
  unfold State.front at h
  split at h
  · simp at h
  · rename_i hr
    dsimp only at h
    split at h
    · simp at h
    · rename_i hh
      exact ⟨by simpa using hr, by simpa using hh, h⟩

/-! ## Requests -/

/-- A request that is asked is decoded, checked, handed to its owner and answered, as one event (R190). -/
theorem State.asks.request {s : State} {kind : Nat} {c : Sender} {payload : List Byte} (h : s.asks kind c payload)
    {α : Type} (priv : Option Priv) (adm : Admitted) (parse : List Byte → Option α) (owner : Sender → α → State → Answer) :
    s.request kind priv adm parse owner =
      (match parse payload with
       | none => State.answer c kind (refused (s.opened .console) .badArgument)
       | some a => State.answer c kind ((s.opened .console).checked c priv adm a owner)).prune := by
  obtain ⟨f, hf, hc, hd, hk, hp⟩ := h
  simp only [State.request, hf, hc, hd, hk, and_self, if_true, State.take, hp]
  rfl

/-- A request that passes the handler's checks is its owner's answer, with the REPLY, at the end of the event. -/
theorem State.asks.accepted {s : State} {kind : Nat} {c : Sender} {payload : List Byte} (h : s.asks kind c payload)
    {α : Type} {priv : Option Priv} {adm : Admitted} {parse : List Byte → Option α} (owner : Sender → α → State → Answer)
    {a : α} (ha : parse payload = some a) (hp : c.holds priv = true) (hs : adm.here s.hnd.op = true) :
    s.request kind priv adm parse owner = (State.answer c kind (owner c a (s.opened .console))).prune := by
  simp [h.request, ha, State.checked, hp, hs]

/-! ## The REPLY (R184, R193) -/

theorem State.repliedLast_prune {s : State} {r : Frame} (h : s.repliedLast r) : s.prune.repliedLast r := by
  simpa [State.repliedLast] using h

/-- A REPLY is the last frame of its queue, or stands in the hold. -/
theorem State.sendReply_last (s : State) (r : Frame) : (s.sendReply r).repliedLast r := by
  unfold State.sendReply State.laneEither
  split
  · rename_i q h
    cases q <;> simp [State.repliedLast, State.enqueue, State.port, State.setPort, PortState.setQueue, PortState.queue]
  · simp [State.repliedLast]

@[simp] theorem State.answer_keeps (c : Sender) (kind : Nat) (a : Answer) :
    (State.answer c kind a).hnd.op = a.1.hnd.op ∧ (State.answer c kind a).pending = a.1.pending ∧
    (State.answer c kind a).resetHeld = a.1.resetHeld ∧ (State.answer c kind a).event = a.1.event ∧
    (State.answer c kind a).cls = a.1.cls ∧ (State.answer c kind a).tim = a.1.tim ∧ (State.answer c kind a).reg = a.1.reg ∧
    (State.answer c kind a).pow = a.1.pow ∧ (State.answer c kind a).inc = a.1.inc ∧ (State.answer c kind a).com = a.1.com ∧
    (State.answer c kind a).fieldPort = a.1.fieldPort ∧
    (State.answer c kind a).unit = a.1.unit ∧ (State.answer c kind a).console = a.1.console ∧
    (State.answer c kind a).supervision = a.1.supervision ∧ (State.answer c kind a).slot = a.1.slot ∧
    (State.answer c kind a).trainNotice = a.1.trainNotice ∧ (State.answer c kind a).plat = a.1.plat ∧
    (State.answer c kind a).feeder = a.1.feeder ∧ (State.answer c kind a).sect = a.1.sect ∧
    (State.answer c kind a).pool = a.1.pool ∧ (State.answer c kind a).kind = a.1.kind ∧
    (State.answer c kind a).incident = a.1.incident ∧ (State.answer c kind a).incNotice = a.1.incNotice ∧
    (State.answer c kind a).interlocked = a.1.interlocked ∧ (State.answer c kind a).fraction = a.1.fraction ∧
    (State.answer c kind a).platHeld = a.1.platHeld ∧ (State.answer c kind a).platHeadway = a.1.platHeadway ∧
    (State.answer c kind a).station = a.1.station ∧ (State.answer c kind a).template = a.1.template ∧
    (State.answer c kind a).zone = a.1.zone ∧ (State.answer c kind a).arming = a.1.arming := by
  simp [State.answer]

/-- An answered request gives the REPLY of its owner's reason and result as the last frame. -/
theorem State.answer_last (c : Sender) (kind : Nat) (a : Answer) :
    (State.answer c kind a).prune.repliedLast (c.reply kind a.2.1 a.2.2) :=
  State.repliedLast_prune (State.sendReply_last _ _)

/-- What an answered request changes: what its owner changed, the console port and the reply hold. -/
theorem State.leaves.answer {s : State} {a : Answer} {ps : List Part} (c : Sender) (kind : Nat)
    (h : s.leaves a.1 ps) (hh : .hnd ∈ ps) (hc : .consolePort ∈ ps) : s.onlyChanges (State.answer c kind a).prune ps := by
  apply State.leaves.onlyChanges
  obtain ⟨h1, h2, h3, h4, h5, h6, h7, h8, h9, h10, h11, h12⟩ := h
  refine ⟨?_, ?_, ?_, ?_, ?_, ?_, ?_, ?_, ?_, ?_, ?_, ?_⟩ <;> simp_all

/-- An owner that leaves the console port alone has its REPLY queued, or held, as R184 says. -/
theorem State.replied_answer {s : State} {c : Sender} {kind : Nat} {a : Answer} (hold : a.1.hnd.replyHold = none)
    (hp : a.1.consolePort = { s.consolePort with fifo := s.consolePort.fifo.drop 1 }) :
    s.replied (State.answer c kind a).prune (c.reply kind a.2.1 a.2.2) := by
  unfold State.answer State.sendReply State.laneEither State.replied
  by_cases hu : s.consolePort.urgent.length < Config.urgentCap
  · have hu' : a.1.consolePort.urgent.length < Config.urgentCap := by simpa [hp] using hu
    have hu'' : a.1.hasRoom .console .urgent = true := by simp [State.hasRoom, PortState.queue, laneCap, hu']
    simp only [hu, hu'', if_true]
    simp [hold, State.enqueue, State.port, State.setPort, PortState.setQueue, PortState.queue, hp, Sender.reply]
  · have hu'' : a.1.hasRoom .console .urgent = false := by
      simpa [State.hasRoom, PortState.queue, laneCap, hp] using hu
    by_cases hn : s.consolePort.normal.length < Config.normalCap
    · have hn'' : a.1.hasRoom .console .normal = true := by
        simp [State.hasRoom, PortState.queue, laneCap, hp, hn]
      simp only [hu, hn, hu'', hn'', if_true]
      simp [hold, State.enqueue, State.port, State.setPort, PortState.setQueue, PortState.queue, hp, Sender.reply]
    · have hn'' : a.1.hasRoom .console .normal = false := by
        simpa [State.hasRoom, PortState.queue, laneCap, hp] using hn
      simp only [hu, hn, hu'', hn'']
      simp [hold, State.joinBoth, State.join, State.holds, State.port, State.setPort, PortState.setRoom, PortState.room, hp,
        Sender.reply]

/-- A refused request: the REPLY with an empty result, and nothing else. -/
theorem State.refusedWith_answer {s : State} {c : Sender} {payload : List Byte} {kind : Nat} (h : s.asks kind c payload)
    (r : Reason) : s.refusedWith (State.answer c kind (refused (s.opened .console) r)).prune c kind r := by
  obtain ⟨f, hf, -⟩ := h
  obtain ⟨-, hh, -⟩ := State.front_console hf
  refine ⟨State.leaves.answer c kind ?_ (by simp) (by simp), by simp [refused], ?_⟩
  · simp [State.leaves, refused]
  · exact State.replied_answer (by simp [refused, hh]) (by simp [refused])

/-- Whether a queue has room depends on its port alone. -/
theorem State.hasRoom_congr {s t : State} {p : Port} {q : Lane} (h : t.port p = s.port p) :
    t.hasRoom p q = s.hasRoom p q := by
  unfold State.hasRoom
  rw [h]

/-! ## Field frames -/

/-- The stages of a known frame that ends no silence (R170, R171): the source is refreshed, the copy is made. -/
def State.noted (s : State) (f : Frame) : State := ((s.opened .field).refresh f.src).forward f

theorem State.actedOn_running {s : State} {f : Frame} (h : s.actedOn f = true) : s.hnd.op = .running := by
  simp only [State.actedOn, Bool.and_eq_true, State.running_eq, decide_eq_true_eq] at h
  exact h.1.1

theorem State.refresh_slot (s : State) (a j : Nat) : (s.refresh a).slot j =
    if s.trainOf a = some j then { s.slot j with lastHeard := s.now } else s.slot j := by
  unfold State.refresh
  have ht : State.trainOf (s.setSupervision a { s.supervision a with lastHeard := s.now }) a = s.trainOf a := by
    simp [State.trainOf]
  dsimp only
  rw [ht]
  cases h : s.trainOf a with
  | none => simp
  | some t =>
    simp only [State.slot_modSlot, Option.some.injEq]
    by_cases hj : j = t
    · subst hj; simp
    · simp [hj, Ne.symm hj]

theorem State.refresh_supervision (s : State) (a b : Nat) : (s.refresh a).supervision b =
    if b = a then { s.supervision a with lastHeard := s.now } else s.supervision b := by
  unfold State.refresh
  dsimp only
  split <;> simp [State.supervision_setSupervision]

theorem State.refresh_tim (s : State) (a : Nat) :
    (s.refresh a).tim = { s.tim with supervision := (s.refresh a).tim.supervision } := by
  unfold State.refresh
  dsimp only
  split <;> simp [State.setSupervision_tim]

theorem State.refresh_reg (s : State) (a : Nat) :
    (s.refresh a).reg = { s.reg with trains := (s.refresh a).reg.trains } := by
  unfold State.refresh
  dsimp only
  split <;> simp [State.modSlot, State.setSlot_reg]

/-- No silence ends at a frame of a calm source. -/
theorem State.heard_calm {s : State} {f : Frame} (h : s.hnd.op = .running → s.calm f.src) (resume : Option Nat) :
    (s.opened .field).heard f resume = s.noted f := by
  unfold State.heard State.noted
  dsimp only
  split
  · rename_i hr
    have hr : s.hnd.op = .running := by simpa using hr
    have hc := h hr
    congr 1
    have ht : State.trainOf ((s.opened .field).refresh f.src) f.src = s.trainOf f.src := by simp [State.trainOf]
    unfold State.calm at hc
    unfold State.endSilence
    rw [ht]
    cases htr : s.trainOf f.src with
    | none =>
      simp only [htr] at hc
      simp [State.refresh_supervision, hc]
    | some t =>
      simp only [htr] at hc
      have : (((s.opened .field).refresh f.src).slot t).st = (s.slot t).st := by
        rw [State.refresh_slot]
        split <;> simp
      simp [this, hc]
  · rfl

@[simp] theorem State.noted_keeps (s : State) (f : Frame) :
    (s.noted f).pending = s.pending ∧ (s.noted f).resetHeld = s.resetHeld ∧ (s.noted f).event = s.event + 1 ∧
    (s.noted f).hnd = s.hnd ∧ (s.noted f).cls = s.cls ∧ (s.noted f).unit = s.unit ∧ (s.noted f).console = s.console ∧
    (s.noted f).tim.lineTime = s.tim.lineTime ∧ (s.noted f).reg.platforms = s.reg.platforms ∧ (s.noted f).plat = s.plat ∧
    (s.noted f).reg.outcomes = s.reg.outcomes ∧ (s.noted f).reg.outcomeLoss = s.reg.outcomeLoss ∧
    (s.noted f).reg.notices = s.reg.notices ∧ (s.noted f).trainNotice = s.trainNotice ∧
    (s.noted f).pow = s.pow ∧ (s.noted f).feeder = s.feeder ∧ (s.noted f).sect = s.sect ∧ (s.noted f).pool = s.pool ∧
    (s.noted f).inc = s.inc ∧ (s.noted f).kind = s.kind ∧ (s.noted f).incident = s.incident ∧
    (s.noted f).incNotice = s.incNotice ∧ (s.noted f).interlocked = s.interlocked ∧ (s.noted f).fraction = s.fraction ∧
    (s.noted f).platHeld = s.platHeld ∧ (s.noted f).platHeadway = s.platHeadway ∧
    (s.noted f).com = s.com ∧ (s.noted f).station = s.station ∧ (s.noted f).template = s.template ∧
    (s.noted f).zone = s.zone ∧ (s.noted f).arming = s.arming ∧
    (s.noted f).fieldPort = { s.fieldPort with fifo := s.fieldPort.fifo.drop 1 } := by
  simp [State.noted]

theorem State.noted_slot (s : State) (f : Frame) (j : Nat) : (s.noted f).slot j =
    if s.trainOf f.src = some j then { s.slot j with lastHeard := s.now } else s.slot j := by
  have : (s.opened .field).trainOf f.src = s.trainOf f.src := by simp [State.trainOf]
  simp [State.noted, State.refresh_slot, this]

theorem State.noted_reg (s : State) (f : Frame) : (s.noted f).reg = { s.reg with trains := (s.noted f).reg.trains } := by
  have := State.refresh_reg (s.opened .field) f.src
  simpa [State.noted] using this

theorem State.noted_tim (s : State) (f : Frame) : s.timHeard (s.noted f) f.src := by
  refine ⟨?_, ?_, ?_⟩
  · have := State.refresh_tim (s.opened .field) f.src
    simpa [State.noted] using this
  · intro b hb; simp [State.noted, State.refresh_supervision, hb]
  · simp [State.noted, State.refresh_supervision]

/-- The copy of a noted frame (R171). -/
theorem State.noted_copied (s : State) (f : Frame) : s.copied (s.noted f) f := by
  unfold State.copied State.noted State.forward
  have hroom : ∀ q, ((s.opened .field).refresh f.src).hasRoom .console q = s.hasRoom .console q := by
    intro q; exact State.hasRoom_congr (by simp)
  simp only [State.refresh_keeps, State.opened_keeps]
  by_cases hc : (s.unit f.src).policy.copies = true
  · simp only [hc, if_true, State.queueOrDiscard, hroom]
    by_cases hu : urgentCopy f.kind = true
    all_goals
      simp only [hu, if_true, Bool.false_eq_true, if_false]
      split
      · simp [State.enqueue, State.setPort, PortState.setQueue, PortState.queue]
      · simp [State.countDiscard, State.setPort]
  · simp [hc]

/-- A frame that a field unit sends and its owner acts on, with no silence to end, is noted and given to the owner. -/
theorem State.hears.onField {s : State} {f : Frame} {kind : Nat} {payload : List Byte} (h : s.hears f kind payload)
    (owner : State → Frame → State) : s.onField kind owner = (owner (s.noted f) f).prune := by
  obtain ⟨hf, ha, hk, -, hc⟩ := h
  have := State.heard_calm (s := s) (f := f) (fun _ => hc) none
  simp only [State.onField, hf, ha, hk, and_self, if_true, State.take]
  rw [← this]
  rfl

theorem State.timHeard_of_tim {s u t : State} {a : Nat} (h : s.timHeard u a) (ht : t.tim = u.tim) : s.timHeard t a := by
  obtain ⟨h1, h2, h3⟩ := h
  have hs : t.supervision = u.supervision := by
    funext b
    show Tab.get _ t.tim.supervision b = Tab.get _ u.tim.supervision b
    rw [ht]
  exact ⟨by rw [ht]; exact h1, by rw [hs]; exact h2, by rw [hs]; exact h3⟩

theorem State.copied_of_port {s u t : State} {f : Frame} (h : s.copied u f)
    (ht : t.consolePort = { u.consolePort with urgentRoom := t.consolePort.urgentRoom,
                                               normalRoom := t.consolePort.normalRoom }) : s.copied t f := by
  obtain ⟨h1, h2⟩ := h
  have e1 : t.consolePort.urgent = u.consolePort.urgent := by rw [ht]
  have e2 : t.consolePort.normal = u.consolePort.normal := by rw [ht]
  have e3 : t.consolePort.outboundDiscards = u.consolePort.outboundDiscards := by rw [ht]
  refine ⟨?_, ?_⟩
  · rw [ht, h1]
  · rw [e1, e2, e3]; exact h2

/-- An event on a train telegram changes nothing but these parts, if its owner changes nothing else (R5). -/
theorem State.selfClear_none {s : State} {kind : Nat} {loc : Location} (h : s.openIncident kind loc = none) :
    s.selfClear kind loc = s := by
  unfold State.selfClear
  split
  · simp [h]
  · rfl

end Sys2Proof.Machine
end

