-- ==== Sys2Proof/Laws/PerInstr.lean ====
section
/-! SUPPORT. The statement made of every command as syntax, one lemma for each constructor: a command is well formed
exactly when the item it names lies in its index range (Tables 0-3 and 0-4); a command that names no item always is. -/

namespace Sys2Proof.Laws

/-- The item a command names and the number of items there are of its kind; nothing for a command that names none. -/
def Bounded.named : Instr → Option (Nat × Nat)
  | .resetAsserted => none
  | .resetReleased _ => none
  | .lineTimeStep => none
  | .slewCorrection => none
  | .displayCycle => none
  | .lineTimePublication => none
  | .frameReceived _ _ => none
  | .linkDown _ => none
  | .frameTransmission _ => none
  | .queueRoom _ _ => none
  | .fieldFrame => none
  | .arrived => none
  | .doorsClosed => none
  | .departed => none
  | .position => none
  | .startRequest => none
  | .feederReport => none
  | .frameDone => none
  | .paBusy => none
  | .paFault => none
  | .paReady => none
  | .helpCall => none
  | .releaseInstant n => some (n, Config.slots)
  | .reservationExpiry n => some (n, Config.slots)
  | .switchingDeadline n => some (n, Config.sections)
  | .acknowledgementDeadline n => some (n, Config.entries)
  | .frameDeadline n => some (n, Config.zones)
  | .gapEnd n => some (n, Config.zones)
  | .lockAgeRelease n => some (n, Config.zones)
  | .silenceExpiry n => some (n, 4096)
  | .displayUpdate n => some (n, Config.platforms)
  | .callOutcomes => none
  | .consoleFrame => none
  | .passThrough => none
  | .consoleDepartPermit => none
  | .consoleEnergiseOrder => none
  | .consolePaFrame => none
  | .consolePaAbort => none
  | .unknownRequest => none
  | .status => none
  | .query => none
  | .startOperation => none
  | .stopOperation => none
  | .setClock => none
  | .slewClock => none
  | .loadConsole => none
  | .loadUnit => none
  | .loadStation => none
  | .loadPlatform => none
  | .loadSection => none
  | .loadFeeder => none
  | .loadClasses => none
  | .loadKind => none
  | .loadTemplate => none
  | .loadZone => none
  | .bindTrain => none
  | .releaseTrain => none
  | .appendCalls => none
  | .cancelCall => none
  | .setPlatformMode => none
  | .raiseIncident => none
  | .ackIncident => none
  | .clearIncident => none
  | .isolateSection => none
  | .energiseSection => none
  | .announce => none
  | .armAnnouncement => none
  | .lockZone => none
  | .unlockZone => none

/-- A command is well formed exactly when the item it names, if it names one, exists. -/
def Bounded.Statement (i : Instr) : Prop :=
  i.wf = true ↔ ∀ n size, Bounded.named i = some (n, size) → n < size

theorem Bounded.item {i : Instr} {n size : Nat} (hw : i.wf = decide (n < size)) (hn : Bounded.named i = some (n, size)) :
    Bounded.Statement i := by
  rw [Bounded.Statement, hw, hn]
  constructor
  · intro h a b e; cases e; exact of_decide_eq_true h
  · intro h; exact decide_eq_true (h n size rfl)

theorem Bounded.noItem {i : Instr} (hw : i.wf = true) (hn : Bounded.named i = none) : Bounded.Statement i := by
  rw [Bounded.Statement, hw, hn]
  constructor
  · intro _ a b e; cases e
  · intro _; rfl

theorem Bounded.resetAsserted : Bounded.Statement .resetAsserted :=
  Bounded.noItem rfl rfl
theorem Bounded.resetReleased (straps : BitVec 12) : Bounded.Statement (.resetReleased straps) :=
  Bounded.noItem rfl rfl
theorem Bounded.lineTimeStep : Bounded.Statement .lineTimeStep :=
  Bounded.noItem rfl rfl
theorem Bounded.slewCorrection : Bounded.Statement .slewCorrection :=
  Bounded.noItem rfl rfl
theorem Bounded.displayCycle : Bounded.Statement .displayCycle :=
  Bounded.noItem rfl rfl
theorem Bounded.lineTimePublication : Bounded.Statement .lineTimePublication :=
  Bounded.noItem rfl rfl
theorem Bounded.frameReceived (port : Port) (run : List Byte) : Bounded.Statement (.frameReceived port run) :=
  Bounded.noItem rfl rfl
theorem Bounded.linkDown (port : Port) : Bounded.Statement (.linkDown port) :=
  Bounded.noItem rfl rfl
theorem Bounded.frameTransmission (port : Port) : Bounded.Statement (.frameTransmission port) :=
  Bounded.noItem rfl rfl
theorem Bounded.queueRoom (port : Port) (lane : Lane) : Bounded.Statement (.queueRoom port lane) :=
  Bounded.noItem rfl rfl
theorem Bounded.fieldFrame : Bounded.Statement .fieldFrame :=
  Bounded.noItem rfl rfl
theorem Bounded.arrived : Bounded.Statement .arrived :=
  Bounded.noItem rfl rfl
theorem Bounded.doorsClosed : Bounded.Statement .doorsClosed :=
  Bounded.noItem rfl rfl
theorem Bounded.departed : Bounded.Statement .departed :=
  Bounded.noItem rfl rfl
theorem Bounded.position : Bounded.Statement .position :=
  Bounded.noItem rfl rfl
theorem Bounded.startRequest : Bounded.Statement .startRequest :=
  Bounded.noItem rfl rfl
theorem Bounded.feederReport : Bounded.Statement .feederReport :=
  Bounded.noItem rfl rfl
theorem Bounded.frameDone : Bounded.Statement .frameDone :=
  Bounded.noItem rfl rfl
theorem Bounded.paBusy : Bounded.Statement .paBusy :=
  Bounded.noItem rfl rfl
theorem Bounded.paFault : Bounded.Statement .paFault :=
  Bounded.noItem rfl rfl
theorem Bounded.paReady : Bounded.Statement .paReady :=
  Bounded.noItem rfl rfl
theorem Bounded.helpCall : Bounded.Statement .helpCall :=
  Bounded.noItem rfl rfl
theorem Bounded.releaseInstant (n : Nat) : Bounded.Statement (.releaseInstant n) :=
  Bounded.item rfl rfl
theorem Bounded.reservationExpiry (n : Nat) : Bounded.Statement (.reservationExpiry n) :=
  Bounded.item rfl rfl
theorem Bounded.switchingDeadline (n : Nat) : Bounded.Statement (.switchingDeadline n) :=
  Bounded.item rfl rfl
theorem Bounded.acknowledgementDeadline (n : Nat) : Bounded.Statement (.acknowledgementDeadline n) :=
  Bounded.item rfl rfl
theorem Bounded.frameDeadline (n : Nat) : Bounded.Statement (.frameDeadline n) :=
  Bounded.item rfl rfl
theorem Bounded.gapEnd (n : Nat) : Bounded.Statement (.gapEnd n) :=
  Bounded.item rfl rfl
theorem Bounded.lockAgeRelease (n : Nat) : Bounded.Statement (.lockAgeRelease n) :=
  Bounded.item rfl rfl
theorem Bounded.silenceExpiry (n : Nat) : Bounded.Statement (.silenceExpiry n) :=
  Bounded.item rfl rfl
theorem Bounded.displayUpdate (n : Nat) : Bounded.Statement (.displayUpdate n) :=
  Bounded.item rfl rfl
theorem Bounded.callOutcomes : Bounded.Statement .callOutcomes :=
  Bounded.noItem rfl rfl
theorem Bounded.consoleFrame : Bounded.Statement .consoleFrame :=
  Bounded.noItem rfl rfl
theorem Bounded.passThrough : Bounded.Statement .passThrough :=
  Bounded.noItem rfl rfl
theorem Bounded.consoleDepartPermit : Bounded.Statement .consoleDepartPermit :=
  Bounded.noItem rfl rfl
theorem Bounded.consoleEnergiseOrder : Bounded.Statement .consoleEnergiseOrder :=
  Bounded.noItem rfl rfl
theorem Bounded.consolePaFrame : Bounded.Statement .consolePaFrame :=
  Bounded.noItem rfl rfl
theorem Bounded.consolePaAbort : Bounded.Statement .consolePaAbort :=
  Bounded.noItem rfl rfl
theorem Bounded.unknownRequest : Bounded.Statement .unknownRequest :=
  Bounded.noItem rfl rfl
theorem Bounded.status : Bounded.Statement .status :=
  Bounded.noItem rfl rfl
theorem Bounded.query : Bounded.Statement .query :=
  Bounded.noItem rfl rfl
theorem Bounded.startOperation : Bounded.Statement .startOperation :=
  Bounded.noItem rfl rfl
theorem Bounded.stopOperation : Bounded.Statement .stopOperation :=
  Bounded.noItem rfl rfl
theorem Bounded.setClock : Bounded.Statement .setClock :=
  Bounded.noItem rfl rfl
theorem Bounded.slewClock : Bounded.Statement .slewClock :=
  Bounded.noItem rfl rfl
theorem Bounded.loadConsole : Bounded.Statement .loadConsole :=
  Bounded.noItem rfl rfl
theorem Bounded.loadUnit : Bounded.Statement .loadUnit :=
  Bounded.noItem rfl rfl
theorem Bounded.loadStation : Bounded.Statement .loadStation :=
  Bounded.noItem rfl rfl
theorem Bounded.loadPlatform : Bounded.Statement .loadPlatform :=
  Bounded.noItem rfl rfl
theorem Bounded.loadSection : Bounded.Statement .loadSection :=
  Bounded.noItem rfl rfl
theorem Bounded.loadFeeder : Bounded.Statement .loadFeeder :=
  Bounded.noItem rfl rfl
theorem Bounded.loadClasses : Bounded.Statement .loadClasses :=
  Bounded.noItem rfl rfl
theorem Bounded.loadKind : Bounded.Statement .loadKind :=
  Bounded.noItem rfl rfl
theorem Bounded.loadTemplate : Bounded.Statement .loadTemplate :=
  Bounded.noItem rfl rfl
theorem Bounded.loadZone : Bounded.Statement .loadZone :=
  Bounded.noItem rfl rfl
theorem Bounded.bindTrain : Bounded.Statement .bindTrain :=
  Bounded.noItem rfl rfl
theorem Bounded.releaseTrain : Bounded.Statement .releaseTrain :=
  Bounded.noItem rfl rfl
theorem Bounded.appendCalls : Bounded.Statement .appendCalls :=
  Bounded.noItem rfl rfl
theorem Bounded.cancelCall : Bounded.Statement .cancelCall :=
  Bounded.noItem rfl rfl
theorem Bounded.setPlatformMode : Bounded.Statement .setPlatformMode :=
  Bounded.noItem rfl rfl
theorem Bounded.raiseIncident : Bounded.Statement .raiseIncident :=
  Bounded.noItem rfl rfl
theorem Bounded.ackIncident : Bounded.Statement .ackIncident :=
  Bounded.noItem rfl rfl
theorem Bounded.clearIncident : Bounded.Statement .clearIncident :=
  Bounded.noItem rfl rfl
theorem Bounded.isolateSection : Bounded.Statement .isolateSection :=
  Bounded.noItem rfl rfl
theorem Bounded.energiseSection : Bounded.Statement .energiseSection :=
  Bounded.noItem rfl rfl
theorem Bounded.announce : Bounded.Statement .announce :=
  Bounded.noItem rfl rfl
theorem Bounded.armAnnouncement : Bounded.Statement .armAnnouncement :=
  Bounded.noItem rfl rfl
theorem Bounded.lockZone : Bounded.Statement .lockZone :=
  Bounded.noItem rfl rfl
theorem Bounded.unlockZone : Bounded.Statement .unlockZone :=
  Bounded.noItem rfl rfl

end Sys2Proof.Laws
end

