-- ==== Sys2Proof/Tests/Slice0.lean ====
section
/-! SUPPORT. Tests: what `Instr.wf` refuses, figures of the spec worked out by hand, and for each statement with premises a
state and operands that meet all of them together, at the ends of their ranges. -/

namespace Sys2Proof.Tests

open Sys2Proof Sys2Proof.Machine

-- One kernel evaluation at a time: many at once ask for more memory than the check gives.
set_option Elab.async false

/-! ## Well-formedness: each check refuses an index one past its range -/

theorem test_wf_refuses_slot : (Instr.releaseInstant 48).wf = false ∧ (Instr.reservationExpiry 48).wf = false := by decide
theorem test_wf_refuses_section : (Instr.switchingDeadline 40).wf = false := by decide
theorem test_wf_refuses_entry : (Instr.acknowledgementDeadline 64).wf = false := by decide
theorem test_wf_refuses_zone :
    (Instr.frameDeadline 64).wf = false ∧ (Instr.gapEnd 64).wf = false ∧ (Instr.lockAgeRelease 64).wf = false := by decide
theorem test_wf_refuses_address : (Instr.silenceExpiry 4096).wf = false := by decide
theorem test_wf_refuses_platform : (Instr.displayUpdate 64).wf = false := by decide
theorem test_wf_admits_last_indices :
    (Instr.releaseInstant 47).wf = true ∧ (Instr.switchingDeadline 39).wf = true ∧
    (Instr.acknowledgementDeadline 63).wf = true ∧ (Instr.gapEnd 63).wf = true ∧
    (Instr.silenceExpiry 4095).wf = true ∧ (Instr.displayUpdate 63).wf = true := by decide

/-! ## Figures of the spec -/

/-- The check value of the CRC of R181 over the nine digits. -/
theorem test_crc_check_value :
    crc16 [0x31, 0x32, 0x33, 0x34, 0x35, 0x36, 0x37, 0x38, 0x39] = 0x29B1#16 := by decide +kernel

/-- R54: the median of two readings is the larger one, of three the middle one. -/
theorem test_median : medianOf [500, -3] = 500 ∧ medianOf [10, -700, 3] = 3 := by decide +kernel

/-- The table gives no row any bits, so no word spells a command. -/
theorem test_no_row_has_bits : decodeTableWord 16 0xC0 = none ∧ State.reset.withFetchWord 16 0xC0 = State.reset := by
  decide +kernel

/-- A sequence from reset: the strapped console loads section 9, and its REPLY is ACCEPTED. -/
theorem test_load_section_from_reset :
    (match exec (.frameReceived .console
        (Frame.mk 4095 3504 0xCA (u8 9 ++ u16 6000 ++ u8 16)).toRun) State.reset with
     | .next s => (match exec .loadSection s with
       | .next t => decide (t.sect 9 = { loaded := true, cap := 6000, window := 16, ceff := 6000 } ∧
           t.consolePort.urgent = [replyFrame 3504 0xCA .accepted []])
       | _ => false)
     | _ => false) = true := by decide +kernel

/-! ## A small line: the last slot, section, platform, feeder, entry and zone -/

def allPrivs : PrivSet := { view := true, dispatch := true, power := true, supervisor := true }

/-- Console entry 0, with every privilege. -/
def chief : Sender := { entry := 0, addr := 100, privs := allPrivs }

/-- Console entry 7, with VIEW, DISPATCH and POWER. -/
def clerk : Sender := { entry := 7, addr := 101, privs := { allPrivs with supervisor := false } }

/-- Console entry 3, with VIEW. -/
def viewer : Sender := { entry := 3, addr := 102, privs := { view := true, dispatch := false, power := false, supervisor := false } }

def train : Slot := { addr := some 200, trip := 7, st := .running, sect := some 39 }
def call : CallRecord := { trip := 7, dest := 0, schedArr := 19000, schedDep := 20100, dmin := 255 }
def platform : Platform := { loaded := true, sect := 39, display := 99, hmax := 240, displayAddr := 4093, ring := [call] }
def feeder : Feeder := { loaded := true, substation := 15, number := 7, sect := 39, breaker := .closed }
def energised : Sect := { loaded := true, cap := 5000, window := 60, st := .energised, ceff := 5000 }
def zone : Zone := { loaded := true, addr := some 4093, station := 39, platform := some 63 }
def announcement : QEntry := { template := 127, cls := 1, repeats := 3, arg1 := 255, arg2 := 99, origin := .console 0 }
def incident : Incident :=
  { number := 65535, kind := 4, loc := { typ := .line, idx := 0 }, severity := 4, st := .activeUnack, raiser := .regulator,
    raised := 0, deadline := some 20000, occurrences := 255, ackBy := none, effects := [] }

def line : State :=
  { hnd := { op := .running }
    cls := {
      units := [(200, { role := .train, index := 47, policy := .both, silence := some 3 }),
                (201, { role := .substation, index := 15, silence := some 0 }),
                (203, { role := .station, index := 39 }),
                (4093, { role := .paUnit, index := 0, silence := some 0 })]
      consoles := [(0, some { addr := 100, privs := allPrivs }), (3, some { addr := 102, privs := viewer.privs }),
                   (7, some { addr := 101, privs := clerk.privs })] }
    tim := { lineTime := 20000, clockSet := true }
    reg := { trains := [(47, train)], platforms := [(63, platform)] }
    pow := { feeders := [(63, feeder)], sections := [(39, energised)], demand0 := 5000 }
    com := { zones := [(63, zone)] } }

/-- The train stands at the platform, DWELLING, and serves its call. -/
def standing : State :=
  { line with reg := { trains := [(47, { train with st := .dwelling, platform := some 63 })]
                       platforms := [(63, { platform with active := some 0, ring :=
                         [{ call with disp := .active, slot := some 47, arrival := some 19990 }] })] } }

/-- The train stands HELD at the platform without a call. -/
def stalled : State :=
  { line with reg := { trains := [(47, { train with st := .held, platform := some 63, stay := some { arrival := 19990 } })]
                       platforms := [(63, { platform with ring := [] })] } }

/-- The train stands HELD at the platform, at its release instant. -/
def leaving : State :=
  { line with reg := { trains := [(47, { train with st := .held, platform := some 63, release := some 20000 })]
                       platforms := [(63, { platform with ring := [] })] } }

/-- The platform's cell is due. -/
def showing : State := line.setPlat 63 { platform with cellPending := true, lastSend := 19984 }

def outcome : Outcome :=
  { platform := 63, trip := some 65535, disp := .lapsed, schedArr := some 0, schedDep := some 0, slot := none, arrival := none,
    departure := none, lateness := none, hold := 0, wait := 0, flags := {}, entered := 19984 }

/-- Kind 31 is present. -/
def reporting : State := line.setKind 31 { present := true, severity := 4 }

def classBytes : List Byte := u16 100 ++ u16 200 ++ u16 300 ++ u16 400 ++ [8, 16, 32, 64, 0]
def platformLoad : List Byte := [63, 39, 99, 39, 1, 63] ++ u16 4093 ++ [1, 240, 120] ++ u16 900 ++ u16 3600
def callBytes : List Byte := [63, 1] ++ u16 65535 ++ [39] ++ u24 20100 ++ u24 20100 ++ [255]
def platformBytes : List Byte := match line.record 1 63 with
  | .ok b => b
  | .error _ => []

/-- An entry that plays, having been busy so often. -/
def voice (busy : Nat) : QEntry := { announcement with st := .playing, busy := busy, entryTag := 255 }

/-- The zone has sent a frame of a play of two frames and waits for its FRAME DONE. -/
def playing (frame busy : Nat) : State :=
  line.setZone 63 { zone with st := .sending, queue := [voice busy], playBuf := { codes := List.replicate 13 0 },
                              outstanding := some ⟨frame, 255, true, 0, none, none⟩, deadline := some 20100 }

def atTime (s : State) (t : Nat) : State := s.setTim { s.tim with lineTime := t }
def configuring (s : State) : State := s.setHnd { s.hnd with op := .configuring }

/-- The frame waits at the front of the console port. -/
def gets (s : State) (f : Frame) : State := { s with consolePort := { s.consolePort with fifo := [f] } }

/-- The frame waits at the front of the field port. -/
def hearing (s : State) (src kind : Nat) (payload : List Byte) : State :=
  { s with fieldPort := { s.fieldPort with fifo := [{ dst := 4095, src := src, kind := kind, payload := payload }] } }

/-- The console asks. -/
def ask (s : State) (c : Sender) (kind : Nat) (payload : List Byte) : State :=
  gets s { dst := 4095, src := c.addr, kind := kind, payload := payload }

theorem ask_asks {s : State} {c : Sender} {kind : Nat} {payload : List Byte}
    (h : s.resetHeld = false ∧ s.hnd.replyHold = none ∧ s.sender c.addr = some c) :
    (ask s c kind payload).asks kind c payload :=
  ⟨{ dst := 4095, src := c.addr, kind := kind, payload := payload },
   by simp [State.front, ask, gets, h.1, h.2.1], h.2.2, rfl, rfl, rfl⟩

/-- The front frame of the field port. -/
def heard (s : State) : Frame := s.fieldPort.fifo.headD { dst := 0, src := 0, kind := 0, payload := [] }

/-- `State.hears`, as a test. -/
def hearsTest (s : State) (kind : Nat) (payload : List Byte) : Bool :=
  decide (s.front .field = some (heard s)) && s.actedOn (heard s) && decide ((heard s).kind = kind) &&
  decide ((heard s).payload = payload) &&
  (match s.trainOf (heard s).src with
   | some t => decide ((s.slot t).st ≠ .lost)
   | none => decide ((s.supervision (heard s).src).silent = false))

theorem hears_of_test {s : State} {kind : Nat} {payload : List Byte} (h : hearsTest s kind payload = true) :
    s.hears (heard s) kind payload := by
  simp only [hearsTest, Bool.and_eq_true, decide_eq_true_eq] at h
  obtain ⟨⟨⟨⟨h1, h2⟩, h3⟩, h4⟩, h5⟩ := h
  refine ⟨h1, h2, h3, h4, ?_⟩
  unfold State.calm
  split at h5 <;> simp_all

theorem hearsTrain_of_test {s : State} {kind t : Nat} {payload : List Byte}
    (h : (hearsTest s kind payload && decide (s.trainOf (heard s).src = some t ∧ (s.slot t).st ≠ .free ∧
      s.openIncident 1 (trainAt t) = none)) = true) : s.hearsTrain (heard s) kind payload t := by
  simp only [Bool.and_eq_true, decide_eq_true_eq] at h
  exact ⟨hears_of_test h.1, h.2⟩

/-- A property of every listed zone and of the reset zone is one of every zone. -/
theorem zones_of_test {s : State} {P : Zone → Prop} [DecidablePred P] (h₀ : P {})
    (h : s.com.zones.all (fun e => decide (P e.2)) = true) (k : Nat) : P (s.zone k) := by
  have get : ∀ l : Tab Zone, l.all (fun e => decide (P e.2)) = true → P (Tab.get {} l k) := by
    intro l
    induction l with
    | nil => exact fun _ => h₀
    | cons e l ih =>
      simp only [List.all_cons, Bool.and_eq_true, decide_eq_true_eq, Tab.get]
      rintro ⟨h1, h2⟩
      split
      · exact h1
      · exact ih h2
  exact get s.com.zones h

/-- `State.faultsPlayNothing`, as a test. -/
theorem faultsPlayNothing_of_test {s : State}
    (h : s.com.zones.all (fun e => decide (e.2.st = .fault → e.2.playing = none)) = true) : s.faultsPlayNothing :=
  zones_of_test (P := fun z => z.st = .fault → z.playing = none) (by decide) h

/-- `State.zonesPlayOne`, as a test. -/
theorem zonesPlayOne_of_test {s : State} (h : s.com.zones.all (fun e => decide ((e.2.queue.filter QEntry.isPlaying).length ≤ 1 ∧
      (e.2.st = .idle → e.2.playing = none))) = true) : s.zonesPlayOne :=
  zones_of_test (P := fun z => (z.queue.filter QEntry.isPlaying).length ≤ 1 ∧ (z.st = .idle → z.playing = none)) (by decide) h

/-- `Platform.servesOne`, as a test. -/
theorem servesOne_of_test {pl : Platform} (h : pl.head < 32 ∧ (∀ a ∈ pl.active, a < 32) ∧
    ∀ i < pl.ring.length, ∀ r ∈ pl.ring[i]?, r.disp = .active → pl.activeIdx = some i) : pl.servesOne :=
  ⟨h.1, h.2.1, fun i r hr => h.2.2 i (List.getElem?_eq_some_iff.1 hr).1 r hr⟩

/-- A report with these bytes for its entries is heard, as a test. -/
theorem hearsReport_of_test {s : State} {es : List ReportEntry}
    (h : hearsTest s kFeederReport (es.flatMap ReportEntry.bytes) = true)
    (he : 1 ≤ es.length ∧ es.length ≤ 8 ∧ ∀ e ∈ es, e.number < 256 ∧ -32768 ≤ e.kw ∧ e.kw ≤ 32767 ∧ e.breaker ≠ .unknown) :
    s.hearsReport (heard s) es :=
  ⟨hears_of_test h, he⟩

/-- The unit is silent, as a test. -/
theorem not_calm_of_test {s : State} {a : Nat} (h : (match s.trainOf a with
    | some t => decide ((s.slot t).st = .lost)
    | none => (s.supervision a).silent) = true) : ¬ s.calm a := by
  unfold State.calm
  split at h <;> simp_all

/-- A frame that waits with its block since an event. -/
def waiting (since : Nat) : Waiting := ⟨{ dst := 200, src := 4095, kind := 0x40, payload := [] }, since⟩

/-- The train stands at the platform with a call in this mode, after a departure, before these other records. -/
def serving (st : TrainState) (mode : Mode) (dep : Option Nat) (late now : Nat) (rest : List CallRecord) : State :=
  atTime { standing with reg := {
    trains := [(47, { train with st := st, platform := some 63, release := if st = .held then some now else none })]
    platforms := [(63, { platform with
      mode := mode, lastDep := dep, lastSched := dep, lateLimit := late, active := some 0
      ring := { call with disp := .active, slot := some 47, arrival := some 17990 } :: rest })] } } now

/-- The section has so much cap. -/
def capped (s : State) (cap : Nat) : State := s.setSect 39 { energised with ceff := cap }

/-- An entry of a zone, of this class. -/
def entry (cls arg : Nat) (st : EntryState) (suspended : Nat) : QEntry :=
  { announcement with cls := cls, arg1 := arg, st := st, suspended := suspended }

/-- The zone in this state with this queue and outstanding frame, and template 127 loaded. -/
def sounding (st : ZoneState) (q : List QEntry) (o : Option Outstanding) : State :=
  { line with com := {
    zones := [(63, { zone with st := st, queue := q, playBuf := { codes := List.replicate 13 0 }, outstanding := o
                               gapEnd := if st = .gap then some 20010 else none })]
    templates := [(127, some [.code 3999])] } }

/-- Every entry of the incident table holds an incident; the last one is CLEARED-UNACK, or none is. -/
def crowded (s : State) (cleared : List Nat) : State :=
  { s with inc := { s.inc with
      entries := Tab.ofFn none 64 (fun i => some { incident with
        number := i + 1, st := if cleared.contains i then .clearedUnack else .activeUnack })
      cleared := cleared } }

/-- A queue's places, all taken. -/
def frames (n : Nat) : List Frame := List.replicate n { dst := 1, src := 4095, kind := 0x70, payload := [] }

/-- R63: a section ISOLATED under an interlock whose feeder reads CLOSED is isolated again; its SECTION NOTICE has cause RECLOSE (4). -/
theorem test_reclose_under_interlock :
    (let s := { line.setSect 39 { energised with st := .isolated } with inc := { interlock := [(39, true)] } }
     let t := s.deriveState 39 false true
     ((t.sect 39).st, (t.sect 39).attempts, (t.sect 39).deadline, t.consolePort.normal.map Frame.payload)) =
      (.isolating, 1, some 20080, [[39, 3, 2, 4, 1, 0, 0, 0, 1]]) := by decide +kernel

/-- R149, R155, R183: an EMERGENCY announcement right after the FRAME DONE of frame 0. The play is suspended at frame 1, and no
PA ABORT: the urgent queue holds the one frame of the EMERGENCY entry, with its tag and its one code (Table 11-6), and frame 1,
queued at the FRAME DONE, keeps its place in the normal queue. -/
theorem test_emergency_with_frame_done :
    (let s := hearing (sounding .sending [voice 0] (some ⟨0, 255, true, 0, none, none⟩)) 4093 kFrameDone [63, 255, 0]
     match exec .frameDone s with
     | .next t => match exec .announce (ask t clerk 0xDA [127, 4, 1, 255, 255, 1, 63]) with
       | .next u => ((t.fieldPort.normal.map Frame.payload).map (fun p => p.take 4),
           (u.zone 63).suspended.map QEntry.savedIdx, u.fieldPort.urgent, decide (u.fieldPort.normal = t.fieldPort.normal))
       | _ => ([], none, [], false)
     | _ => ([], none, [], false)) =
      ([[63, 255, 0x81, 5]], some 1, [Frame.mk 4093 4095 kPaFrame [63, 1, 0x80, 1, 0x0F, 0x9F]], true) := by decide +kernel

/-- R149, R155, R183: an EMERGENCY announcement right after the FRAME DONE at which an entry of class 3 outranked the play and
started. The play stays SUSPENDED at frame 1, the entry of class 3 is QUEUED again, its frame with tag 1 keeps its place, and the
EMERGENCY entry's frame takes the tag after it. -/
theorem test_emergency_at_started_entry :
    (let s := hearing (sounding .sending [voice 0, entry 3 7 .queued 0] (some ⟨0, 255, true, 0, none, none⟩)) 4093 kFrameDone
       [63, 255, 0]
     match exec .frameDone s with
     | .next t => match exec .announce (ask t clerk 0xDA [127, 4, 1, 255, 255, 1, 63]) with
       | .next u => ((t.zone 63).playing.map QEntry.cls, (u.zone 63).queue.map (fun e => (e.cls, e.st, e.savedIdx)),
           u.fieldPort.urgent, u.fieldPort.normal)
       | _ => (none, [], [], [])
     | _ => (none, [], [], [])) =
      (some 3, [(1, .suspended, 1), (3, .queued, 0), (4, .playing, 0)],
        [Frame.mk 4093 4095 kPaFrame [63, 2, 0x80, 1, 0x0F, 0x9F]],
        [Frame.mk 4093 4095 kPaFrame [63, 1, 0x80, 1, 0x0F, 0x9F]]) := by decide +kernel

/-- R67: with both queues free after a link loss, an order that waits for room goes to the urgent queue, though it is the
normal queue's front block that is served. -/
theorem test_waiting_order_goes_urgent :
    (let s := { line.setFeeder 63 { feeder with waiting := some ⟨.isolate, (waiting 3).frame, 3⟩ } with
                  fieldPort := { urgentRoom := [.powerUnit], normalRoom := [.powerUnit] } }
     match exec (.queueRoom .field .normal) s with
     | .next t => (t.fieldPort.urgent.length, t.fieldPort.normal.length)
     | _ => (0, 0)) = (1, 0) := by decide +kernel

/-- R190: the length is checked first and the values last. RAISE INCIDENT with an unknown effect type (9) is NOT PERMITTED
without DISPATCH and BAD ARGUMENT with it. -/
theorem test_unknown_effect_type :
    [viewer, clerk].map (fun c => match exec .raiseIncident (ask reporting c 0xD5 [31, 6, 0, 1, 1, 9, 0]) with
      | .next t => t.consolePort.urgent
      | _ => []) =
    [[replyFrame 102 0xD5 .notPermitted []], [replyFrame 101 0xD5 .badArgument []]] := by decide +kernel

/-- R1, R189: an outstanding frame that is absent takes three bytes of ones, an absent tag four, an absent trip and
destination three. -/
theorem test_absent_fields :
    outstandingBytes none = [0xFF, 0xFF, 0xFF] ∧ tagBytes none = [0xFF, 0xFF, 0xFF, 0xFF] ∧
    ({ slot := 47, call := none } : ArrivalCtx).bytes = [47, 0xFF, 0xFF, 0xFF] := by decide +kernel

/-! ## For each statement with premises, a state and operands that meet them: the queue, reset, links, line time -/

theorem witness_StepTakesFrontCommand :
    ({ line with pending := [.status, .gapEnd 63] } : State).pending = .status :: [.gapEnd 63] ∧ line.pending = [] := ⟨rfl, rfl⟩

theorem witness_FrameRoundTrip :
    (Frame.mk 4095 4095 255 (List.replicate 56 255#8)).fits ∧ (Frame.mk 0 0 0 []).fits := by
  unfold Frame.fits; decide

/-- Runs of 6 bytes, with length byte 57, and a byte short; a frame into a FIFO with 31 and with 32 frames; a wrong CRC. -/
theorem witness_FrameReceptionFillsFifo :
    line.resetHeld = false ∧ (List.replicate 6 0#8).length < 7 ∧
    (∃ b, (List.replicate 64 57#8)[4]? = some b ∧ 56 < b.toNat) ∧
    (∃ b, (List.replicate 62 56#8)[4]? = some b ∧ (List.replicate 62 56#8).length ≠ 7 + b.toNat) ∧
    (Frame.mk 4095 100 0xC0 []).fits ∧ (frames 31).length < 32 ∧ ¬ (frames 32).length < 32 ∧
    (Frame.mk 4095 100 0xC0 []).toRun ≠ (Frame.mk 4095 100 0xC0 []).toRun.take (5 + 0) ++ [0, 0] :=
  ⟨rfl, by decide, ⟨57, by decide⟩, ⟨56, by decide⟩, by unfold Frame.fits; decide, by decide, by decide, by decide +kernel⟩

theorem witness_TransmissionAndLinkLoss :
    line.resetHeld = false ∧ line.fieldPort.urgent = [] ∧ line.fieldPort.normal = [] ∧ line.fieldPort.linkDown = false ∧
    (∃ s : State, s.resetHeld = false ∧ s.consolePort.urgent = frames 1 ∧ s.consolePort.normal = frames 48 ∧
      s.consolePort.linkDown = true) :=
  ⟨rfl, rfl, rfl, rfl, { line with consolePort := { urgent := frames 1, normal := frames 48, linkDown := true } }, rfl, rfl, rfl, rfl⟩

/-- A held reply with 15 of 16 urgent places taken; a waiting LINE TIME with 47 of 48; the notice of entry 63. -/
theorem witness_QueueRoomServesFrontBlock :
    (∃ (s : State) (f : Frame), s.hasRoom .console .urgent = true ∧
      s.consolePort.room .urgent = .requestHandler :: [] ∧ s.hnd.replyHold = some f) ∧
    (∃ s : State, s.hasRoom .field .normal = true ∧ s.fieldPort.normalRoom = .timingUnit :: [.composer] ∧ s.tim.waiting = true) ∧
    (∃ (s : State) (i : Nat) (after : List Nat) (n : IncNotice), s.hasRoom .console .normal = true ∧
      s.consolePort.room .normal = .incidentUnit :: [] ∧ s.inc.order = i :: after ∧ i ∉ after ∧ s.incNotice i = some n ∧
      n.lane = .normal) :=
  ⟨⟨{ line with hnd := { op := .running, replyHold := some (replyFrame 100 0xC0 .accepted []) },
                consolePort := { urgent := frames 15, urgentRoom := [.requestHandler] } },
    replyFrame 100 0xC0 .accepted [], by decide +kernel⟩,
   ⟨{ line with tim := { line.tim with waiting := true },
                fieldPort := { normal := frames 47, normalRoom := [.timingUnit, .composer] } }, by decide +kernel⟩,
   ⟨{ line with inc := { order := [63], notices := [(63, some (IncNotice.mk 1 4 { typ := .line, idx := 0 } 2 none 1 none .freed 1 none))] },
                consolePort := { normalRoom := [.incidentUnit] } },
    63, [], IncNotice.mk 1 4 { typ := .line, idx := 0 } 2 none 1 none .freed 1 none, by decide +kernel⟩⟩

/-- On the console port a TRAIN NOTICE of slot 47, outcomes, the notices of section 39 and of zone 63; on the field port an
advice, a permit, a cell, an order, an abort and a PA frame, each the only one that waits; and two orders, with both queues
free and the place given in the normal one. -/
theorem witness_QueueRoomServesFrontBlock_blocks :
    (∀ b ∈ [Block.regulator, .powerUnit, .composer], ∃ s : State, s.hasRoom .console .normal = true ∧
      s.consolePort.normalRoom = [b] ∧ (s.trainNotice 47).isSome ∧ (∀ j, j < 47 → s.trainNotice j = none) ∧
      (s.sect 39).notice.isSome ∧ (∀ j, j < 39 → (s.sect j).notice = none) ∧
      (s.zone 63).notice.isSome ∧ ∀ j, j < 63 → (s.zone j).notice = none) ∧
    (∃ s : State, s.hasRoom .console .normal = true ∧ s.consolePort.normalRoom = [.regulator] ∧
      (∀ j, j < Config.slots → s.trainNotice j = none) ∧ s.outcomesDue = true) ∧
    (∀ v ∈ [{ train with advice := some (waiting 3) }, { train with permit := some (waiting 3) }], ∃ (s : State) (w : TrainWait),
      s.hasRoom .field .normal = true ∧ s.fieldPort.room .normal = [.regulator] ∧ s.slot 47 = v ∧
      s.trainWaits .normal = [(3, 47, w)]) ∧
    (∃ s : State, s.hasRoom .field .normal = true ∧ s.fieldPort.room .normal = [.regulator] ∧
      s.trainWaits .normal = [(3, 63, .cell 63)]) ∧
    (∃ (s : State) (f : Frame), s.hasRoom .field .urgent = true ∧ s.fieldPort.room .urgent = [.powerUnit] ∧
      s.orderWaits = [(3, 63, (63, f))]) ∧
    (∃ (s : State) (f : Frame), s.hasRoom .field .normal = true ∧ s.hasRoom .field .urgent = true ∧
      s.fieldPort.room .normal = [.powerUnit, .composer] ∧ longestWaiting s.orderWaits (3, 0, (0, f)) ∧
      (s.feeder 63).waiting.isSome = true) ∧
    ∀ abort, ∃ s : State, s.hasRoom .field .normal = true ∧ s.fieldPort.room .normal = [.composer] ∧
      s.zoneWaits .normal = [(3, 63, (63, abort))] :=
  ⟨fun b h => ⟨{ line with
      reg := { line.reg with notices := [(47, some ⟨some 200, 7, .lost, none, none, false, .lost, 1⟩)] }
      pow := { line.pow with sections := [(39, { energised with notice := some ⟨.unknown, .energised, .report, 1⟩ })] }
      com := { zones := [(63, { zone with notice := some { reason := .ready } })] }
      consolePort := { normal := frames 47, normalRoom := [b] } }, by revert b h; decide +kernel⟩,
   ⟨{ line.setReg { outcomes := [outcome, outcome, outcome] } with consolePort := { normalRoom := [.regulator] } },
    by decide +kernel⟩,
   fun v h => ⟨{ line.setSlot 47 v with fieldPort := { normal := frames 47, normalRoom := [.regulator] } },
     if v.advice.isSome then .advice 47 (waiting 3).frame else .permit 47 (waiting 3).frame, by revert v h; decide +kernel⟩,
   ⟨{ line.setPlat 63 { platform with cellPending := true, cellSince := some 3 } with
       fieldPort := { normal := frames 47, normalRoom := [.regulator] } }, by decide +kernel⟩,
   ⟨{ line.setFeeder 63 { feeder with waiting := some ⟨.isolate, (waiting 3).frame, 3⟩ } with
       fieldPort := { urgent := frames 15, urgentRoom := [.powerUnit] } }, (waiting 3).frame, by decide +kernel⟩,
   ⟨{ (line.setFeeder 63 { feeder with waiting := some ⟨.isolate, (waiting 3).frame, 3⟩ }).setFeeder 0
        { feeder with waiting := some ⟨.isolate, (waiting 3).frame, 3⟩ } with
       fieldPort := { urgentRoom := [.powerUnit], normalRoom := [.powerUnit, .composer] } }, (waiting 3).frame, by decide +kernel,
     by decide +kernel, rfl, ⟨by decide +kernel, by decide +kernel⟩, by decide +kernel⟩,
   fun abort => ⟨{ (playing 0 0).modZone 63 (fun z => { z with
       abort := if abort then some 3 else none, outstanding := some ⟨0, 255, false, 3, none, none⟩ }) with
       fieldPort := { normal := frames 47, normalRoom := [.composer] } }, by cases abort <;> decide +kernel⟩⟩

theorem witness_SlewCorrectionMovesRemainder :
    ∃ s : State, s.running = true ∧ s.now < Config.maxTime ∧ s.tim.withhold = false ∧ s.tim.correctionDue = true ∧
      s.tim.slew = -64 ∧ ∃ t : State, t.running = true ∧ t.now < Config.maxTime ∧ t.tim.withhold = false ∧
      t.tim.correctionDue = true ∧ t.tim.slew = 64 :=
  ⟨{ line with tim := { lineTime := 1048574, slew := -64, correctionDue := true } }, by decide, by decide, by decide,
   by decide, by decide, { line with tim := { lineTime := 1048574, slew := 64, correctionDue := true } }, by decide⟩

/-- The 64th step, with either sign of the remainder. -/
theorem witness_SlewCorrectionMovesRemainder_phase :
    ∀ slew ∈ [(-64 : Int), 64], ∃ s : State, s.running = true ∧ s.now + 1 < Config.maxTime ∧ s.tim.withhold = false ∧
      s.tim.correctionDue = false ∧ s.tim.phase = 63 ∧ s.tim.slew = slew :=
  fun slew h => ⟨{ line with tim := { lineTime := 1048573, slew := slew, phase := 63 } }, by revert slew h; decide⟩

theorem witness_DisplayCycleLapsesAndRecomputes :
    ∃ s : State, s.running = true ∧ s.tim.displayDue = true ∧ (s.plat 63).loaded = true ∧
      ∃ r, (s.plat 63).ring.head? = some r ∧ r.schedDep + 8 * (s.plat 63).lapse < s.now :=
  ⟨{ line with tim := { lineTime := 20160, displayDue := true } }, by decide, by decide, by decide, call, by decide⟩

theorem witness_LineTimePublicationQueues :
    ∃ s t : State, s.running = true ∧ s.tim.publishDue = true ∧ s.hasRoom .field .normal = false ∧
      t.running = true ∧ t.tim.publishDue = true ∧ t.tim.waiting = false ∧ t.hasRoom .field .normal = true :=
  ⟨{ line with tim := { lineTime := 20160, publishDue := true, interval := 30 }, fieldPort := { normal := frames 48 } },
   { line with tim := { lineTime := 20160, publishDue := true, interval := 30 } }, by decide +kernel⟩

theorem witness_ClockRequestsSetAndSlew :
    (∃ (s : State) (c : Sender) (time : Nat), s.asks 0xC3 c (u24 time) ∧ time ≤ Config.maxTime ∧
      c.privs.supervisor = true ∧ s.hnd.op = .configuring ∧ time = 1048575) ∧
    (∃ (s : State) (c : Sender) (offset : Int), s.asks 0xC4 c (i8 offset) ∧ -128 ≤ offset ∧ offset ≤ 127 ∧
      c.privs.supervisor = true ∧ s.hnd.op = .running ∧ offset = -64) ∧
    (∃ (s : State) (c : Sender) (offset : Int), s.asks 0xC4 c (i8 offset) ∧ -128 ≤ offset ∧ offset ≤ 127 ∧
      c.privs.supervisor = true ∧ s.hnd.op = .running ∧ offset = 65) :=
  ⟨⟨ask (configuring line) chief 0xC3 (u24 1048575), chief, 1048575, ask_asks (by decide), by decide, rfl, rfl, rfl⟩,
   ⟨ask line chief 0xC4 (i8 (-64)), chief, -64, ask_asks (by decide), by decide, by decide, rfl, rfl, rfl⟩,
   ⟨ask line chief 0xC4 (i8 65), chief, 65, ask_asks (by decide), by decide, by decide, rfl, rfl, rfl⟩⟩

/-! ## Field telegrams -/

theorem witness_FieldCommandsTakeFrontFrame :
    ∃ (c : Instr) (kind : Nat) (s : State) (f : Frame), (c, kind) ∈ fieldTable ∧ s.front .field = some f ∧
      s.actedOn f = true ∧ f.kind = kind :=
  ⟨.helpCall, kHelpCall, hearing line 203 kHelpCall [], { dst := 4095, src := 203, kind := kHelpCall, payload := [] },
   by decide +kernel⟩

/-- An unknown source; a known source whose kind fits no role; a source that is heard while CONFIGURING. -/
theorem witness_UnactedFieldFrames :
    (∃ (s : State) (f : Frame), s.front .field = some f ∧ s.actedOn f = false ∧ (s.running = true → s.calm f.src) ∧
      (s.unit f.src).role = .unused) ∧
    (∃ (s : State) (f : Frame), s.front .field = some f ∧ s.actedOn f = false ∧ (s.running = true → s.calm f.src) ∧
      (s.unit f.src).role = .train) ∧
    (∃ (s : State) (f : Frame), s.front .field = some f ∧ s.actedOn f = false ∧ (s.running = true → s.calm f.src) ∧
      s.running = false) :=
  ⟨⟨hearing line 999 kArrived [], _, rfl, by decide, fun _ => by show _ = _; decide, by decide⟩,
   ⟨hearing line 200 kFrameDone [], _, rfl, by decide +kernel, fun _ => by show _ ≠ _; decide, by decide⟩,
   ⟨hearing (configuring line) 200 kArrived [], _, rfl, by decide +kernel, fun h => absurd h (by decide), by decide⟩⟩

/-- A kind that no owner takes, from a LOST train, a silent substation, and a silent PA unit whose zone is in FAULT with each
of two causes. -/
theorem witness_UnactedFieldFrames_silent :
    ∀ x ∈ [(200, Role.train, FaultCause.silence), (201, .substation, .silence), (4093, .paUnit, .silence),
           (4093, .paUnit, .reported)], ∃ (s : State) (f : Frame),
      s.front .field = some f ∧ s.actedOn f = false ∧ s.running = true ∧ (s.unit f.src).role = x.2.1 ∧ ¬ s.calm f.src ∧
      (x.2.1 = .train → s.trainOf f.src = some 47 ∧ s.pool 47 = .free) ∧
      (s.zone 63).st = .fault ∧ (s.zone 63).cause = some x.2.2 := by
  refine fun x h => ⟨hearing { (line.setSlot 47 { train with st := .lost }).setZone 63
      { zone with st := .fault, cause := some x.2.2 } with
    tim := { line.tim with supervision := [(201, { silent := true }), (4093, { silent := true })] } } x.1 0x55 [], _, rfl,
    ?_, rfl, ?_, not_calm_of_test ?_, ?_, ?_⟩ <;> revert x h <;> decide +kernel

theorem witness_PositionRecordsSection :
    ∃ (s : State) (f : Frame) (n k : Nat), s.hearsTrain f kPosition (u8 k) n ∧ k < Config.sections ∧
      (s.sect k).loaded = true ∧ k = 39 ∧ n = 47 :=
  ⟨hearing line 200 kPosition (u8 39), _, 47, 39, hearsTrain_of_test (by decide +kernel), by decide +kernel⟩

/-- The call of the reported trip; a trip without a call; a second ARRIVED at the platform where the slot stands. -/
theorem witness_ArrivedMatchesCall :
    (∃ (s : State) (f : Frame) (n p trip : Nat), s.hearsTrain f kArrived (u8 p ++ u16 trip) n ∧ p < Config.platforms ∧
      (s.plat p).loaded = true ∧ trip < 65536 ∧ (s.slot n).st = .running ∧ (s.plat p).activeCall = none ∧
      (s.plat p).matchTrip trip = some 0) ∧
    (∃ (s : State) (f : Frame) (n p trip : Nat), s.hearsTrain f kArrived (u8 p ++ u16 trip) n ∧ p < Config.platforms ∧
      (s.plat p).loaded = true ∧ trip < 65536 ∧ (s.slot n).st = .running ∧ (s.plat p).activeCall = none ∧
      (s.plat p).matchTrip trip = none) ∧
    (∃ (s : State) (f : Frame) (n p trip : Nat), s.hearsTrain f kArrived (u8 p ++ u16 trip) n ∧ p < 256 ∧ trip < 65536 ∧
      (s.slot n).atPlatform p = true) :=
  ⟨⟨hearing line 200 kArrived (u8 63 ++ u16 7), _, 47, 63, 7, hearsTrain_of_test (by decide +kernel), by decide +kernel⟩,
   ⟨hearing line 200 kArrived (u8 63 ++ u16 65535), _, 47, 63, 65535, hearsTrain_of_test (by decide +kernel), by decide +kernel⟩,
   ⟨hearing standing 200 kArrived (u8 63 ++ u16 9), _, 47, 63, 9, hearsTrain_of_test (by decide +kernel), by decide +kernel⟩⟩

/-- An armed platform whose zone is in FAULT; a call left ACTIVE by a slot that stands there, and by a LOST one; an arrival
from the state HELD at another platform. -/
theorem witness_ArrivedMatchesCall_displaced :
    (∃ (s : State) (f : Frame), s.hearsTrain f kArrived (u8 63 ++ u16 7) 47 ∧ (s.plat 63).loaded = true ∧
      (s.slot 47).st = .running ∧ (s.plat 63).activeCall = none ∧ (s.arming 63).template = some 127 ∧
      63 ∈ (s.plat 63).zones ∧ (s.zone 63).loaded = true ∧ (s.zone 63).queue = [] ∧ (s.zone 63).st = .fault) ∧
    (∀ st ∈ [TrainState.held, .lost], ∃ (s : State) (f : Frame), s.hearsTrain f kArrived (u8 63 ++ u16 9) 0 ∧
      (s.plat 63).loaded = true ∧ (s.slot 0).st = .running ∧
      (s.plat 63).activeCall = some (0, { call with disp := .active, slot := some 47, arrival := some 17990 }) ∧
      (s.slot 47).st = st ∧ (s.slot 47).platform = some 63) ∧
    (∃ (s : State) (f : Frame), s.hearsTrain f kArrived (u8 0 ++ u16 9) 47 ∧ (s.plat 0).loaded = true ∧
      (s.slot 47).atPlatform 63 = true ∧ (s.plat 0).activeCall = none ∧ (s.servedCall 47 63).isSome) :=
  ⟨⟨hearing { line.setPlat 63 { platform with zones := [63] } with
      com := { zones := [(63, { zone with st := .fault, cause := some .silence })]
               armings := [(63, { template := some 127, cls := 4 })] } } 200 kArrived (u8 63 ++ u16 7), _,
     hearsTrain_of_test (by decide +kernel), by decide +kernel⟩,
   fun st h => ⟨hearing { (serving st .off none 0 20000 []).setSlot 0 { train with addr := some 199 } with
      cls := { line.cls with units := (199, { role := .train, index := 0 }) :: line.cls.units } } 199 kArrived (u8 63 ++ u16 9), _,
     hearsTrain_of_test (by revert st h; decide +kernel), by revert st h; decide +kernel⟩,
   ⟨hearing ((serving .held .off none 0 20000 []).setPlat 0 { platform with ring := [] }) 200 kArrived (u8 0 ++ u16 9), _,
     hearsTrain_of_test (by decide +kernel), by decide +kernel⟩⟩

theorem witness_HoldWithinBounds :
    ∃ (s : State) (n p i : Nat) (r : CallRecord) (a : Nat), s.servedCall n p = some (i, r) ∧ r.arrival = some a ∧
      s.effectiveMode p = .off :=
  ⟨standing, 47, 63, 0, { call with disp := .active, slot := some 47, arrival := some 19990 }, 19990, by decide +kernel⟩

/-- Each mode; HEADWAY before and after a departure, without and with a PENDING record behind. -/
theorem witness_HoldWithinBounds_modes :
    ∀ x ∈ [(Mode.timetable, (none : Option Nat), ([] : List CallRecord)), (.headway, none, []), (.headway, some 19000, []),
           (.headway, some 19000, [{ call with trip := 9 }])],
      let s := serving .dwelling x.1 x.2.1 0 20000 x.2.2
      s.servedCall 47 63 = some (0, { call with disp := .active, slot := some 47, arrival := some 17990 }) ∧
      s.effectiveMode 63 = x.1 ∧ (s.plat 63).lastDep = x.2.1 ∧ (s.plat 63).lastSched = x.2.1 := by decide +kernel

/-- A hold that lasts, from DWELLING; a train that goes on at once, at a free and at a held platform, from HELD. -/
theorem witness_DoorsClosedHolds :
    (∃ (s : State) (f : Frame) (n p : Nat), s.hearsTrain f kDoorsClosed (u8 p) n ∧ p < Config.platforms ∧
      (s.plat p).loaded = true ∧ (s.slot n).platform = some p ∧ (s.slot n).st = .dwelling ∧ s.pool n = .free ∧
      s.hasRoom .field .normal = false ∧ (s.holdOf n p s.now).2 ≠ s.now) ∧
    (∃ (s : State) (f : Frame) (n p : Nat), s.hearsTrain f kDoorsClosed (u8 p) n ∧ p < Config.platforms ∧
      (s.plat p).loaded = true ∧ (s.slot n).platform = some p ∧ (s.slot n).st = .held ∧ s.pool n = .free ∧
      s.hasRoom .field .normal = true ∧ s.holdOf n p s.now = (0, s.now) ∧ s.platHeld p = false) ∧
    (∃ (s : State) (f : Frame) (n p : Nat), s.hearsTrain f kDoorsClosed (u8 p) n ∧ p < Config.platforms ∧
      (s.plat p).loaded = true ∧ (s.slot n).platform = some p ∧ (s.slot n).st = .held ∧ s.pool n = .free ∧
      s.hasRoom .field .normal = true ∧ s.holdOf n p s.now = (0, s.now) ∧ s.platHeld p = true) :=
  ⟨⟨{ hearing standing 200 kDoorsClosed (u8 63) with
        fieldPort := { (hearing standing 200 kDoorsClosed (u8 63)).fieldPort with normal := frames 48 } }, _, 47, 63,
    hearsTrain_of_test (by decide +kernel), by decide +kernel⟩,
   ⟨hearing stalled 200 kDoorsClosed (u8 63), _, 47, 63, hearsTrain_of_test (by decide +kernel), by decide +kernel⟩,
   ⟨{ hearing stalled 200 kDoorsClosed (u8 63) with inc := { held := [(63, true)] } }, _, 47, 63,
    hearsTrain_of_test (by decide +kernel), by decide +kernel⟩⟩

/-- From LOST, with a hold that lasts and with none. -/
theorem witness_DoorsClosedHolds_lost :
    ∀ now ∈ [20000, 21000], ∃ (s : State) (f : Frame) (r : CallRecord), s.front .field = some f ∧ s.actedOn f = true ∧
      f.kind = kDoorsClosed ∧ f.payload = u8 63 ∧ s.trainOf f.src = some 47 ∧ (s.slot 47).st = .lost ∧
      (s.slot 47).platform = some 63 ∧ (s.plat 63).loaded = true ∧ s.servedCall 47 63 = some (0, r) ∧ s.pool 47 = .free ∧
      (s.holdOf 47 63 s.now = (0, s.now) ↔ now = 21000) :=
  fun now h => ⟨hearing (serving .lost .off none 0 now []) 200 kDoorsClosed (u8 63), _,
    { call with disp := .active, slot := some 47, arrival := some 17990 }, rfl, by revert now h; decide +kernel⟩

/-- A departure from a served call with a reservation kept; one without a call. -/
theorem witness_DepartedLeavesPlatform :
    (∃ (s : State) (f : Frame) (n p : Nat), s.hearsTrain f kDeparted (u8 p) n ∧ p < Config.platforms ∧
      (s.plat p).loaded = true ∧ (s.plat p).servesOne ∧ (s.slot n).atPlatform p = true ∧ (s.plat p).lateLimit = 0 ∧
      (∃ x, s.servedCall n p = some x) ∧ s.pool n = .reservation 39 19990 100 20480 false) ∧
    (∃ (s : State) (f : Frame) (n p : Nat), s.hearsTrain f kDeparted (u8 p) n ∧ p < Config.platforms ∧
      (s.plat p).loaded = true ∧ (s.plat p).servesOne ∧ (s.slot n).atPlatform p = true ∧ (s.plat p).lateLimit = 0 ∧
      s.servedCall n p = none) :=
  ⟨⟨hearing (standing.setPool 47 (.reservation 39 19990 100 20480 false)) 200 kDeparted (u8 63), _, 47, 63,
    hearsTrain_of_test (by decide +kernel), by decide +kernel, by decide +kernel, servesOne_of_test (by decide +kernel),
    by decide +kernel, by decide +kernel, ⟨(0, { call with disp := .active, slot := some 47, arrival := some 19990 }), by decide +kernel⟩, by decide +kernel⟩,
   ⟨hearing stalled 200 kDeparted (u8 63), _, 47, 63, hearsTrain_of_test (by decide +kernel), by decide +kernel,
    by decide +kernel, servesOne_of_test (by decide +kernel), by decide +kernel⟩⟩

/-- Departures above the late limit, without and with a kind 4 there; within half of it; and between. -/
theorem witness_DepartedLeavesPlatform_late :
    ∀ x ∈ [(1, 20109, false), (1, 20109, true), (1, 20104, true), (1, 20105, true)], ∃ (s : State) (f : Frame),
      s.hearsTrain f kDeparted (u8 63) 47 ∧ (s.plat 63).servesOne ∧ (s.plat 63).loaded = true ∧
      (s.slot 47).atPlatform 63 = true ∧
      (s.plat 63).lateLimit = x.1 ∧ (s.servedCall 47 63).isSome ∧ s.now = x.2.1 ∧
      (s.openIncident 4 (trainAt 47) = if x.2.2 then some 63 else none) ∧ s.freeIncident = some 0 :=
  fun x h => ⟨hearing ((serving .permitted .off none x.1 x.2.1 []).setIncident 63
      (if x.2.2 then some { incident with loc := trainAt 47 } else none)) 200 kDeparted (u8 63), _,
    hearsTrain_of_test (by revert x h; decide +kernel), servesOne_of_test (by revert x h; decide +kernel),
    by revert x h; decide +kernel⟩

/-- A start that takes the cap's last kilowatt; one at a section with a queue. -/
theorem witness_StartRequestIsPlaced :
    (∃ (s : State) (f : Frame) (n k : Nat), s.hearsTrain f kStartRequest (u8 k) n ∧ k < Config.sections ∧
      (s.sect k).loaded = true ∧ (s.slot n).st = .running ∧ (s.slot n).platform = none ∧ s.pool n = .free ∧
      (s.sect k).st = .energised ∧ (s.sect k).measLost = false ∧ (s.sect k).queue = [] ∧ 0 < (s.sect k).ceff ∧
      (s.sect k).m + (s.sect k).reserved + s.demandOf (s.slot n).cls = (s.sect k).ceff ∧
      (s.sect k).reserved + s.demandOf (s.slot n).cls ≤ (s.sect k).ceff) ∧
    (∃ (s : State) (f : Frame) (n k : Nat), s.hearsTrain f kStartRequest (u8 k) n ∧ k < Config.sections ∧
      (s.sect k).loaded = true ∧ (s.slot n).st = .running ∧ (s.slot n).platform = none ∧ s.pool n = .free ∧
      (s.sect k).queue ≠ []) :=
  ⟨⟨hearing line 200 kStartRequest (u8 39), _, 47, 39, hearsTrain_of_test (by decide +kernel), by decide +kernel⟩,
   ⟨hearing (line.setSect 39 { energised with queue := [0] }) 200 kStartRequest (u8 39), _, 47, 39,
    hearsTrain_of_test (by decide +kernel), by decide +kernel⟩⟩

/-- A PERMITTED train between stations asks again: with its reservation gone; with the reservation that it holds on the section
it asks for; and with one on another section that has a queue. -/
theorem witness_StartRequestIsPlaced_permitted :
    ∀ x ∈ [(PoolEntry.free, []), (.reservation 39 19990 100 20480 false, []), (.reservation 38 19990 100 20480 false, [1])],
      ∃ (s : State) (f : Frame), s.hearsTrain f kStartRequest (u8 39) 47 ∧ (s.sect 39).loaded = true ∧
        (s.slot 47).st = .permitted ∧ (s.slot 47).platform = none ∧ s.pool 47 = x.1 ∧ (s.sect 39).queue = [] ∧
        (s.sect 38).queue = x.2 :=
  fun x h => ⟨hearing (((line.modSlot 47 (fun sl => { sl with st := .permitted })).setPool 47 x.1).setSect 38
      { energised with queue := x.2 }) 200 kStartRequest (u8 39), _,
    hearsTrain_of_test (by revert x h; decide +kernel), by revert x h; decide +kernel⟩

/-- The reduced test at its bound, and one kilowatt past it. -/
theorem witness_StartRequestIsPlaced_reduced :
    ∀ cap ∈ [2500, 2499], ∃ (s : State) (f : Frame), s.hearsTrain f kStartRequest (u8 39) 47 ∧ (s.sect 39).loaded = true ∧
      (s.slot 47).st = .running ∧ (s.slot 47).platform = none ∧ s.pool 47 = .free ∧ (s.sect 39).ready ∧
      ¬ (s.sect 39).fits (s.demandOf (s.slot 47).cls) ∧ ((s.sect 39).fitsReduced (s.demandOf (s.slot 47).cls) ↔ cap = 2500) := by
  unfold Sect.fitsReduced Sect.ready Sect.fits
  exact fun cap h => ⟨hearing (capped line cap) 200 kStartRequest (u8 39), _,
    hearsTrain_of_test (by revert cap h; decide +kernel), by revert cap h; decide +kernel⟩

/-- A report of one entry, at the ends of its ranges; and one of 8 entries, of which 7 match the feeder and one none. -/
theorem witness_FeederReportMeasures :
    ∀ es ∈ [[⟨7, -32768, .closed, true⟩], (⟨255, 32767, .opened, true⟩ : ReportEntry) :: List.replicate 7 ⟨7, 100, .closed, false⟩],
      ∃ (s : State) (f : Frame), s.hearsReport f es ∧ (s.entriesFor f.src es 63).getLast? = es.getLast? ∧
        s.entriesFor f.src es 62 = [] :=
  fun es h => ⟨hearing line 201 kFeederReport (es.flatMap ReportEntry.bytes), _,
    hearsReport_of_test (by revert es h; decide +kernel) (by revert es h; decide +kernel), by revert es h; decide +kernel⟩

/-- A breaker reported OPEN; and one reported CLOSED and then OPEN. -/
theorem witness_TripReleasesReservations :
    ∀ es ∈ [[⟨7, 32767, .opened, false⟩], [⟨7, 100, .closed, false⟩, (⟨7, 0, .opened, true⟩ : ReportEntry)]],
      ∃ (s : State) (f : Frame) (e : ReportEntry), s.hearsReport f es ∧ (s.entriesFor f.src es 63).getLast? = some e ∧
        e.breaker = .opened ∧ (s.sect (s.feeder 63).sect).st = .energised ∧ s.pool 47 = .reservation 39 19990 100 20480 false :=
  fun es h => ⟨hearing (line.setPool 47 (.reservation 39 19990 100 20480 false)) 201 kFeederReport
      (es.flatMap ReportEntry.bytes), _, es.getLastD ⟨0, 0, .unknown, false⟩,
    hearsReport_of_test (by revert es h; decide +kernel) (by revert es h; decide +kernel), by revert es h; decide +kernel⟩

/-- The first frame of a play of two; the last frame of a play that has repeats left. -/
theorem witness_FrameDoneSendsNextFrame :
    (∃ (s : State) (f : Frame) (z tag idx since : Nat) (e : QEntry), s.hears f kFrameDone (u8 z ++ u8 tag ++ u8 idx) ∧
      z < Config.zones ∧ tag < 256 ∧ idx < 256 ∧ (s.zone z).loaded = true ∧ (s.zone z).addr = some f.src ∧
      (s.zone z).st = .sending ∧ (s.zone z).outstanding = some ⟨idx, tag, true, since, none, none⟩ ∧
      (s.zone z).queue.filter QEntry.isPlaying = [e] ∧
      (s.zone z).outranked e = false ∧ idx + 1 ≠ (s.zone z).playBuf.frames ∧ s.hasRoom .field .normal = true ∧
      (s.zone z).abort = none ∧ e.cls ≠ 4) ∧
    (∃ (s : State) (f : Frame) (z tag idx since : Nat) (e : QEntry), s.hears f kFrameDone (u8 z ++ u8 tag ++ u8 idx) ∧
      z < Config.zones ∧ tag < 256 ∧ idx < 256 ∧ (s.zone z).loaded = true ∧ (s.zone z).addr = some f.src ∧
      (s.zone z).st = .sending ∧ (s.zone z).outstanding = some ⟨idx, tag, true, since, none, none⟩ ∧
      (s.zone z).queue.filter QEntry.isPlaying = [e] ∧
      (s.zone z).outranked e = false ∧ idx + 1 = (s.zone z).playBuf.frames ∧ e.plays + 1 < e.repeats) :=
  ⟨⟨hearing (playing 0 0) 4093 kFrameDone (u8 63 ++ u8 255 ++ u8 0), _, 63, 255, 0, 0, voice 0, hears_of_test (by decide +kernel),
    by decide +kernel⟩,
   ⟨hearing (playing 1 0) 4093 kFrameDone (u8 63 ++ u8 255 ++ u8 1), _, 63, 255, 1, 0, voice 0, hears_of_test (by decide +kernel),
    by decide +kernel⟩⟩

/-- The last play of an entry; a play that an EMERGENCY entry outranks at its first frame, at its last frame with plays left,
and at the last frame of its last play, the EMERGENCY entry being QUEUED, SUSPENDED for 480 eighths, and for longer. -/
theorem witness_FrameDoneSendsNextFrame_ends :
    (∃ (s : State) (f : Frame), s.hears f kFrameDone (u8 63 ++ u8 255 ++ u8 1) ∧ (s.zone 63).addr = some f.src ∧
      (s.zone 63).st = .sending ∧ (s.zone 63).outstanding = some ⟨1, 255, true, 0, none, none⟩ ∧
      (s.zone 63).queue.filter QEntry.isPlaying = [{ voice 0 with plays := 2 }] ∧ (s.zone 63).outranked { voice 0 with plays := 2 } = false ∧
      1 + 1 = (s.zone 63).playBuf.frames) ∧
    (∀ x ∈ [(0, 0, entry 4 255 .queued 0), (1, 0, entry 4 255 .queued 0), (1, 2, entry 4 255 .queued 0),
            (1, 2, entry 4 255 .suspended 19520), (1, 2, entry 4 255 .suspended 19519)], ∃ (s : State) (f : Frame),
      s.hears f kFrameDone (u8 63 ++ u8 255 ++ u8 x.1) ∧ (s.zone 63).addr = some f.src ∧ s.now = 20000 ∧
      (s.zone 63).st = .sending ∧ (s.zone 63).outstanding = some ⟨x.1, 255, true, 0, none, none⟩ ∧
      (s.zone 63).queue.filter QEntry.isPlaying = [{ voice 0 with plays := x.2.1 }] ∧
      (s.zone 63).outranked { voice 0 with plays := x.2.1 } = true ∧ (s.zone 63).playBuf.frames = 2 ∧
      bestOf (s.zone 63).candidates = some x.2.2 ∧ (s.compose (s.zone 63) x.2.2).codes ≠ [] ∧
      (∀ y ∈ (s.zone 63).queue, y.st = .suspended → y.cls = 1 → s.now ≤ y.suspended + 960) ∧
      (x.2.2.st = .suspended → x.2.2.cls = 1 → s.now ≤ x.2.2.suspended + 960)) :=
  ⟨⟨hearing (sounding .sending [{ voice 0 with plays := 2 }] (some ⟨1, 255, true, 0, none, none⟩)) 4093 kFrameDone
      (u8 63 ++ u8 255 ++ u8 1), _, hears_of_test (by decide +kernel), by decide +kernel⟩,
   fun x h => ⟨hearing (sounding .sending [{ voice 0 with plays := x.2.1 }, x.2.2] (some ⟨x.1, 255, true, 0, none, none⟩)) 4093
      kFrameDone (u8 63 ++ u8 255 ++ u8 x.1), _, hears_of_test (by revert x h; decide +kernel), by revert x h; decide +kernel⟩⟩

/-- The second and the third busy of an entry. -/
theorem witness_PaBusyWaitsOrFails :
    (∃ (s : State) (f : Frame) (z tag idx since : Nat) (e : QEntry), s.hears f kPaBusy (u8 z ++ u8 tag ++ u8 idx) ∧
      z < Config.zones ∧ tag < 256 ∧ idx < 256 ∧ (s.zone z).loaded = true ∧ (s.zone z).addr = some f.src ∧
      (s.zone z).st = .sending ∧ (s.zone z).outstanding = some ⟨idx, tag, true, since, none, none⟩ ∧ (s.zone z).playing = some e ∧
      e.busy = 1) ∧
    (∃ (s : State) (f : Frame) (z tag idx since : Nat) (e : QEntry), s.hears f kPaBusy (u8 z ++ u8 tag ++ u8 idx) ∧
      z < Config.zones ∧ tag < 256 ∧ idx < 256 ∧ (s.zone z).loaded = true ∧ (s.zone z).addr = some f.src ∧
      (s.zone z).st = .sending ∧ (s.zone z).outstanding = some ⟨idx, tag, true, since, none, none⟩ ∧ (s.zone z).playing = some e ∧
      e.busy = 2) :=
  ⟨⟨hearing (playing 0 1) 4093 kPaBusy (u8 63 ++ u8 255 ++ u8 0), _, 63, 255, 0, 0, voice 1, hears_of_test (by decide +kernel),
    by decide +kernel⟩,
   ⟨hearing (playing 0 2) 4093 kPaBusy (u8 63 ++ u8 255 ++ u8 0), _, 63, 255, 0, 0, voice 2, hears_of_test (by decide +kernel),
    by decide +kernel⟩⟩

theorem witness_PaFaultAndReady :
    (∃ (s : State) (f : Frame) (z : Nat), z < Config.zones ∧ (s.zone z).loaded = true ∧ (s.zone z).addr = some f.src ∧
      s.hears f kPaFault (u8 z) ∧ (s.zone z).st ≠ .fault) ∧
    (∃ (s : State) (f : Frame) (z : Nat), z < Config.zones ∧ (s.zone z).loaded = true ∧ (s.zone z).addr = some f.src ∧
      s.hears f kPaReady (u8 z) ∧ (s.zone z).st = .fault) ∧
    (∃ (s : State) (f : Frame) (z : Nat), z < Config.zones ∧ (s.zone z).loaded = true ∧ (s.zone z).addr = some f.src ∧
      s.hears f kPaReady (u8 z) ∧ (s.zone z).st ≠ .fault) :=
  ⟨⟨hearing (playing 0 0) 4093 kPaFault (u8 63), _, 63, by decide, by decide, by decide, hears_of_test (by decide +kernel), by decide⟩,
   ⟨hearing (line.setZone 63 { zone with st := .fault, cause := some .noAnswer }) 4093 kPaReady (u8 63), _, 63, by decide,
    by decide, by decide, hears_of_test (by decide +kernel), by decide⟩,
   ⟨hearing line 4093 kPaReady (u8 63), _, 63, by decide, by decide, by decide, hears_of_test (by decide +kernel), by decide⟩⟩

/-- Naming a zone and naming none, where nothing plays in a zone in FAULT, for a zone in each state. -/
theorem witness_PaFaultAndReady_all :
    ∀ x ∈ [(kPaFault, u8 63, ZoneState.sending), (kPaFault, u8 63, .fault), (kPaFault, [0xFF#8], .sending),
           (kPaReady, u8 63, .fault), (kPaReady, u8 63, .sending), (kPaReady, [0xFF#8], .fault), (kPaFault, u8 62, .fault),
           (kPaReady, u8 64, .fault)],
      ∃ (s : State) (f : Frame), s.faultsPlayNothing ∧ s.hears f x.1 x.2.1 ∧ (s.zone 63).loaded = true ∧
        (s.zone 63).addr = some f.src ∧ (s.zone 63).st = x.2.2 ∧ 62 ∉ s.zonesOf f.src ∧ 64 ∉ s.zonesOf f.src :=
  fun x h => ⟨hearing ((playing 0 0).modZone 63 (fun z => if x.2.2 = .fault then { zone with st := .fault } else z)) 4093 x.1 x.2.1, _,
    faultsPlayNothing_of_test (by revert x h; decide +kernel), hears_of_test (by revert x h; decide +kernel),
    by revert x h; decide +kernel⟩

/-- An empty table, with entry 0 free; and an ACTIVE kind 5 at the station, with 255 occurrences. -/
theorem witness_HelpCallRaisesKind5 :
    (∃ (s : State) (f : Frame), s.hears f kHelpCall [] ∧ s.openIncident 5 { typ := .station, idx := (s.unit f.src).index } = none ∧
      s.freeIncident = some 0) ∧
    (∃ (s : State) (f : Frame) (v : Incident), s.hears f kHelpCall [] ∧
      s.openIncident 5 { typ := .station, idx := (s.unit f.src).index } = some 63 ∧ s.incident 63 = some v) :=
  ⟨⟨hearing line 203 kHelpCall [], _, hears_of_test (by decide +kernel), by decide +kernel⟩,
   ⟨hearing (line.setIncident 63 (some { incident with kind := 5, loc := { typ := .station, idx := 39 } })) 203 kHelpCall [], _,
    { incident with kind := 5, loc := { typ := .station, idx := 39 } }, hears_of_test (by decide +kernel), by decide +kernel⟩⟩

/-- A full table, with the last entry on the cleared list, and with none there. -/
theorem witness_HelpCallRaisesKind5_full :
    ∀ cleared ∈ [[63], []], ∃ (s : State) (f : Frame), s.hears f kHelpCall [] ∧
      s.openIncident 5 { typ := .station, idx := (s.unit f.src).index } = none ∧ s.freeIncident = none ∧
      s.inc.cleared = cleared ∧ (s.incident 63).isSome :=
  fun cleared h => ⟨hearing (crowded line cleared) 203 kHelpCall [], _, hears_of_test (by revert cleared h; decide +kernel),
    by revert cleared h; decide +kernel⟩

/-! ## Instants -/

/-- At a held platform; a start that takes the cap's last kilowatt; a start on a closed section. -/
theorem witness_ReleaseInstantStarts :
    (∃ (s : State) (n p rel : Nat), n < Config.slots ∧ s.running = true ∧ (s.slot n).st = .held ∧
      (s.slot n).platform = some p ∧ (s.slot n).release = some rel ∧ rel ≤ s.now ∧ s.platHeld p = true) ∧
    (∃ (s : State) (n p rel : Nat), n < Config.slots ∧ s.running = true ∧ (s.slot n).st = .held ∧
      (s.slot n).platform = some p ∧ (s.slot n).release = some rel ∧ rel ≤ s.now ∧ s.platHeld p = false ∧
      s.pool n = .free ∧ (s.sect (s.plat p).sect).st = .energised ∧ (s.sect (s.plat p).sect).measLost = false ∧
      (s.sect (s.plat p).sect).queue = [] ∧ 0 < (s.sect (s.plat p).sect).ceff ∧
      (s.sect (s.plat p).sect).m + (s.sect (s.plat p).sect).reserved + s.demandOf (s.slot n).cls =
        (s.sect (s.plat p).sect).ceff ∧
      (s.sect (s.plat p).sect).reserved + s.demandOf (s.slot n).cls ≤ (s.sect (s.plat p).sect).ceff) ∧
    (∃ (s : State) (n p rel : Nat), n < Config.slots ∧ s.running = true ∧ (s.slot n).st = .held ∧
      (s.slot n).platform = some p ∧ (s.slot n).release = some rel ∧ rel ≤ s.now ∧ s.platHeld p = false ∧
      s.pool n = .free ∧ (s.sect (s.plat p).sect).st ≠ .energised) :=
  ⟨⟨{ leaving with inc := { held := [(63, true)] } }, 47, 63, 20000, by decide +kernel⟩,
   ⟨leaving, 47, 63, 20000, by decide +kernel⟩,
   ⟨leaving.setSect 39 { energised with st := .isolated }, 47, 63, 20000, by decide +kernel⟩⟩

/-- A served call, on a section that takes the demand in full, reduced at the bound, and not at all. -/
theorem witness_ReleaseInstantStarts_call :
    ∀ cap ∈ [5000, 2500, 2499], ∃ s : State, s.running = true ∧ (s.slot 47).st = .held ∧ (s.slot 47).platform = some 63 ∧
      (s.slot 47).release = some 20000 ∧ s.now = 20000 ∧ s.platHeld 63 = false ∧ s.pool 47 = .free ∧
      (s.servedCall 47 63).isSome ∧ (s.sect (s.plat 63).sect).ready ∧
      ((s.sect (s.plat 63).sect).fits (s.demandOf (s.slot 47).cls) ↔ cap = 5000) ∧
      ((s.sect (s.plat 63).sect).fitsReduced (s.demandOf (s.slot 47).cls) ↔ cap = 2500) := by
  unfold Sect.fitsReduced Sect.ready Sect.fits
  exact fun cap h => ⟨capped (serving .held .off none 0 20000 []) cap, by revert cap h; decide +kernel⟩

theorem witness_ReservationExpiryFrees :
    ∃ (s : State) (n k instant amount expiry : Nat) (reduced : Bool), n < Config.slots ∧ s.running = true ∧
      s.pool n = .reservation k instant amount expiry reduced ∧ expiry ≤ s.now ∧ (s.sect k).queue = [] ∧ n = 47 ∧ k = 39 :=
  ⟨line.setPool 47 (.reservation 39 19520 100 20000 true), 47, 39, 19520, 100, 20000, true, by decide +kernel⟩

/-- The second attempt; and the third, with the last entry of the incident table free. -/
theorem witness_SwitchingDeadlineRepeatsOrFails :
    (∃ (s : State) (k d : Nat), k < Config.sections ∧ s.running = true ∧ (s.sect k).st.switching = true ∧
      (s.sect k).deadline = some d ∧ d ≤ s.now ∧ (s.sect k).attempts = 2) ∧
    (∃ (s : State) (k d : Nat), k < Config.sections ∧ s.running = true ∧ (s.sect k).st.switching = true ∧
      (s.sect k).deadline = some d ∧ d ≤ s.now ∧ (s.sect k).attempts = 3 ∧ s.openIncident 8 (sectionAt k) = none ∧
      s.freeIncident = some 0 ∧ s.law12 ∧ (s.kind 8).templates = []) :=
  ⟨⟨line.setSect 39 { energised with st := .isolating, attempts := 2, deadline := some 20000 }, 39, 20000, by decide +kernel⟩,
   ⟨line.setSect 39 { energised with st := .energising, attempts := 3, deadline := some 20000 }, 39, 20000, by decide +kernel,
    by decide +kernel, by decide +kernel, by decide +kernel, by decide +kernel, by decide +kernel, by decide +kernel,
    by decide +kernel, by unfold State.law12; decide +kernel, by decide +kernel⟩⟩

/-- Both switching states below the third attempt, with a feeder to order. -/
theorem witness_SwitchingDeadlineRepeatsOrFails_orders :
    ∀ x ∈ [(SectState.isolating, Breaker.closed), (.energising, .opened)], ∃ s : State, s.running = true ∧
      (s.sect 39).st = x.1 ∧ (s.sect 39).deadline = some 20000 ∧ s.now = 20000 ∧ (s.sect 39).attempts = 2 ∧
      s.feedersOf 39 = [63] ∧ (s.feeder 63).breaker = x.2 ∧ s.substationAddr (s.feeder 63).substation = some 201 :=
  fun x h => ⟨(line.setSect 39 { energised with st := x.1, attempts := 2, deadline := some 20000 }).setFeeder 63
    { feeder with breaker := x.2 }, by revert x h; decide +kernel⟩

theorem witness_AcknowledgementDeadlineEscalates :
    ∃ (s : State) (i d : Nat) (v : Incident), i < Config.entries ∧ s.running = true ∧ s.incident i = some v ∧
      v.st = .activeUnack ∧ v.deadline = some d ∧ d ≤ s.now ∧ i = 63 ∧ v.severity = 4 :=
  ⟨line.setIncident 63 (some incident), 63, 20000, incident, by decide +kernel⟩

/-- The second and the third expiry of a frame; a gap after a busy and one between two plays. -/
theorem witness_FrameDeadlineAndGapEnd :
    (∃ (s : State) (z d : Nat) (o : Outstanding), z < Config.zones ∧ s.running = true ∧ (s.zone z).st = .sending ∧
      (s.zone z).deadline = some d ∧ d ≤ s.now ∧ (s.zone z).outstanding = some o ∧ (s.zone z).expiryRun = 1 ∧
      s.hasRoom .field .normal = true ∧ (s.zone z).abort = none ∧ (s.zone z).urgentFrame = false) ∧
    (∃ (s : State) (z d : Nat) (o : Outstanding), z < Config.zones ∧ s.running = true ∧ (s.zone z).st = .sending ∧
      (s.zone z).deadline = some d ∧ d ≤ s.now ∧ (s.zone z).outstanding = some o ∧ (s.zone z).expiryRun = 2) ∧
    (∃ (s : State) (z g : Nat) (e : QEntry), z < Config.zones ∧ s.running = true ∧ (s.zone z).st = .gap ∧
      (s.zone z).gapEnd = some g ∧ g ≤ s.now ∧ (s.zone z).playing = some e ∧ (s.zone z).outstanding = none) ∧
    (∃ (s : State) (z g : Nat) (e : QEntry) (o : Outstanding), z < Config.zones ∧ s.running = true ∧
      (s.zone z).st = .gap ∧ (s.zone z).gapEnd = some g ∧ g ≤ s.now ∧ (s.zone z).playing = some e ∧
      (s.zone z).outstanding = some o) :=
  ⟨⟨atTime ((playing 0 0).modZone 63 (fun z => { z with expiryRun := 1 })) 20100, 63, 20100, ⟨0, 255, true, 0, none, none⟩, by decide +kernel⟩,
   ⟨atTime ((playing 0 0).modZone 63 (fun z => { z with expiryRun := 2 })) 20100, 63, 20100, ⟨0, 255, true, 0, none, none⟩, by decide +kernel⟩,
   ⟨(playing 0 0).modZone 63 (fun z => { z with st := .gap, gapEnd := some 20000, outstanding := none }), 63, 20000, voice 0,
    by decide +kernel⟩,
   ⟨(playing 1 1).modZone 63 (fun z => { z with st := .gap, gapEnd := some 20000 }), 63, 20000, voice 1, ⟨1, 255, true, 0, none, none⟩,
    by decide +kernel⟩⟩

/-- A train, a substation and a PA unit, each unheard for one eighth more than its limit. -/
theorem witness_SilenceExpiryHandsOver :
    (∃ (s : State) (a i : Nat), s.faultsPlayNothing ∧ a < 4096 ∧ s.expired a = true ∧ s.trainOf a = some 47 ∧
      s.openIncident 1 (trainAt 47) = none ∧ s.freeIncident = some i ∧ s.now = s.lastHeard a + 8 * 64 + 1) ∧
    (∃ (s : State) (a : Nat), s.faultsPlayNothing ∧ a < 4096 ∧ s.expired a = true ∧ (s.unit a).role = .substation ∧
      (s.feeder 63).loaded = true ∧ (s.feeder 63).substation = (s.unit a).index) ∧
    (∃ (s : State) (a : Nat), s.faultsPlayNothing ∧ a < 4096 ∧ s.expired a = true ∧ (s.unit a).role = .paUnit ∧
      (s.zone 63).loaded = true ∧ (s.zone 63).addr = some a ∧ s.zonesOf a = [63]) :=
  ⟨⟨atTime line 513, 200, 0, faultsPlayNothing_of_test (by decide +kernel), by decide +kernel⟩,
   ⟨atTime line 65, 201, faultsPlayNothing_of_test (by decide +kernel), by decide +kernel⟩,
   ⟨atTime line 65, 4093, faultsPlayNothing_of_test (by decide +kernel), by decide +kernel⟩⟩

/-- A pending cell with room and without; three outcomes, and one that has waited 16 eighths. -/
theorem witness_CellsAndOutcomesAreSent :
    (∃ (s : State) (p : Nat), p < Config.platforms ∧ s.running = true ∧ (s.plat p).loaded = true ∧
      (s.plat p).cellPending = true ∧ (s.plat p).displayAddr ≠ 0 ∧ (s.plat p).lastSend + 16 = s.now ∧
      s.hasRoom .field .normal = true) ∧
    (∃ (s : State) (p : Nat), p < Config.platforms ∧ s.running = true ∧ (s.plat p).loaded = true ∧
      (s.plat p).cellPending = true ∧ (s.plat p).displayAddr ≠ 0 ∧ (s.plat p).lastSend + 16 = s.now ∧
      s.hasRoom .field .normal = false) ∧
    (∃ s : State, s.running = true ∧ s.hasRoom .console .normal = true ∧ s.reg.outcomes.length = 3) ∧
    (∃ (s : State) (o : Outcome), s.running = true ∧ s.hasRoom .console .normal = true ∧
      s.reg.outcomes.head? = some o ∧ o.entered + 16 = s.now) :=
  ⟨⟨showing, 63, by decide +kernel⟩, ⟨{ showing with fieldPort := { normal := frames 48 } }, 63, by decide +kernel⟩,
   ⟨line.setReg { outcomes := [outcome, outcome, outcome] }, by decide +kernel⟩,
   ⟨line.setReg { outcomes := [outcome] }, outcome, by decide +kernel⟩⟩

/-! ## Console frames -/

theorem witness_UnknownSourceAndKind :
    (∃ (s : State) (f : Frame), s.front .console = some f ∧ s.sender f.src = none) ∧
    (∃ (s : State) (f : Frame) (c : Sender), s.front .console = some f ∧ s.sender f.src = some c ∧ f.dst = Config.self ∧
      f.kind = 0xBF) ∧
    (∃ (s : State) (f : Frame) (c : Sender), s.front .console = some f ∧ s.sender f.src = some c ∧ f.dst = Config.self ∧
      f.kind = 0xC5) ∧
    (∃ (s : State) (f : Frame) (c : Sender), s.front .console = some f ∧ s.sender f.src = some c ∧ f.dst = Config.self ∧
      f.kind = 0xDF) :=
  ⟨⟨gets line ⟨4095, 4094, 0xC0, []⟩, _, rfl, by decide +kernel⟩,
   ⟨gets line ⟨4095, 100, 0xBF, []⟩, _, chief, rfl, by decide +kernel⟩,
   ⟨gets line ⟨4095, 100, 0xC5, []⟩, _, chief, rfl, by decide +kernel⟩,
   ⟨gets line ⟨4095, 100, 0xDF, []⟩, _, chief, rfl, by decide +kernel⟩⟩

/-- An unused destination, a barred kind at each end of the two ranges, a console without the privilege, and a pass. -/
theorem witness_PassThroughForwards :
    (∀ x ∈ [(gets line ⟨999, 100, 0x50, []⟩, chief, 0x50), (gets line ⟨200, 100, 0x80, []⟩, chief, 0x80),
            (gets line ⟨200, 100, 0x85, []⟩, chief, 0x85), (gets line ⟨200, 100, 0xC0, []⟩, chief, 0xC0),
            (gets line ⟨200, 100, 0xDE, []⟩, chief, 0xDE), (gets line ⟨201, 102, kIsolateOrder, []⟩, viewer, kIsolateOrder),
            (gets line ⟨201, 101, kIsolateOrder, []⟩, clerk, kIsolateOrder),
            (gets line ⟨200, 101, 0x86, []⟩, clerk, 0x86)],
      ∃ f, x.1.passes f x.2.1 ∧ f.kind = x.2.2 ∧ f.kind ≠ kDepartPermit ∧ f.kind ≠ kEnergiseOrder ∧ f.kind ≠ kPaFrame ∧
        f.kind ≠ kPaAbort) := by
  intro x h
  refine ⟨x.1.consolePort.fifo.headD ⟨0, 0, 0, []⟩, ?_⟩
  unfold State.passes
  revert x h
  decide +kernel

theorem witness_PassThroughPassesOrIsRefused :
    ∃ (s : State) (f : Frame) (c : Sender), s.passes f c ∧ f.dst = 200 ∧ f.kind = 255 :=
  ⟨gets line ⟨200, 101, 255, []⟩, _, clerk, ⟨rfl, by decide +kernel, by decide +kernel⟩, rfl, rfl⟩

/-- At a held platform without and with SUPERVISOR, and for a train between stations; a free and an interlocked section. -/
theorem witness_PermitAndEnergiseChecks :
    (∃ (s : State) (f : Frame) (c : Sender) (n : Nat), s.passes f c ∧ f.kind = kDepartPermit ∧ s.trainOf f.dst = some n ∧
      c.privs.has .dispatch = true ∧ (s.slot n).platform = some 63 ∧ s.platHeld 63 = true ∧ c.privs.supervisor = false) ∧
    (∃ (s : State) (f : Frame) (c : Sender) (n : Nat), s.passes f c ∧ f.kind = kDepartPermit ∧ s.trainOf f.dst = some n ∧
      c.privs.has .dispatch = true ∧ (s.slot n).platform = some 63 ∧ s.platHeld 63 = true ∧ c.privs.supervisor = true) ∧
    (∃ (s : State) (f : Frame) (c : Sender) (n : Nat), s.passes f c ∧ f.kind = kDepartPermit ∧ s.trainOf f.dst = some n ∧
      c.privs.has .dispatch = true ∧ (s.slot n).platform = none) ∧
    (∃ (s : State) (f : Frame) (c : Sender) (sub num sec : Byte) (rest : List Byte), s.passes f c ∧
      f.kind = kEnergiseOrder ∧ f.payload = sub :: num :: sec :: rest ∧ (s.unit f.dst).role = .substation ∧
      sub.toNat = (s.unit f.dst).index ∧ num.toNat = 7 ∧ sec.toNat = 39 ∧ c.privs.has .power = true ∧
      s.interlocked 39 = false) ∧
    (∃ (s : State) (f : Frame) (c : Sender) (sub num sec : Byte) (rest : List Byte), s.passes f c ∧
      f.kind = kEnergiseOrder ∧ f.payload = sub :: num :: sec :: rest ∧ (s.unit f.dst).role = .substation ∧
      sub.toNat = (s.unit f.dst).index ∧ num.toNat = 7 ∧ sec.toNat = 0 ∧ c.privs.has .power = true ∧
      s.feederAt 15 7 = some 63 ∧ s.interlocked 39 = true) := by
  unfold State.passes
  exact
   ⟨⟨gets { standing with inc := { held := [(63, true)] } } ⟨200, 101, kDepartPermit, []⟩, _, clerk, 47, ⟨rfl, by decide +kernel, by decide +kernel⟩,
     by decide +kernel⟩,
    ⟨gets { standing with inc := { held := [(63, true)] } } ⟨200, 100, kDepartPermit, []⟩, _, chief, 47, ⟨rfl, by decide +kernel, by decide +kernel⟩,
     by decide +kernel⟩,
    ⟨gets line ⟨200, 101, kDepartPermit, []⟩, _, clerk, 47, ⟨rfl, by decide +kernel, by decide +kernel⟩, by decide +kernel⟩,
    ⟨gets line ⟨201, 101, kEnergiseOrder, [15, 7, 39]⟩, _, clerk, 15, 7, 39, [], ⟨rfl, by decide +kernel, by decide +kernel⟩,
     by decide +kernel⟩,
    ⟨gets { line with inc := { interlock := [(39, true)] } } ⟨201, 101, kEnergiseOrder, [15, 7, 0, 9]⟩, _, clerk, 15, 7, 0, [9],
     ⟨rfl, by decide +kernel, by decide +kernel⟩, by decide +kernel⟩⟩

/-- A PA FRAME under no lock, the console's own lock and another's; a PA ABORT during a play. -/
theorem witness_ConsolePaNeedsTheLock :
    (∀ l ∈ [Lock.unlocked, .console 0, .console 7, .incident 65535], ∃ (s : State) (f : Frame), s.passes f chief ∧
      f.kind = kPaFrame ∧ f.payload = [63] ∧ (s.unit f.dst).role ≠ .unused ∧ (s.zone 63).loaded = true ∧
      (s.zone 63).addr = some f.dst ∧ (s.zone 63).lock = l) ∧
    (∃ (s : State) (f : Frame), s.passes f chief ∧ f.kind = kPaAbort ∧ f.payload = [63, 0] ∧
      (s.unit f.dst).role ≠ .unused ∧ (s.zone 63).loaded = true ∧ (s.zone 63).addr = some f.dst ∧
      (s.zone 63).lock = .console 0 ∧ ∃ x ∈ (s.zone 63).queue, x.st = .playing) := by
  unfold State.passes
  refine ⟨fun l h => ⟨gets (line.setZone 63 { zone with lock := l }) ⟨4093, 100, kPaFrame, [63]⟩, _,
    ⟨rfl, ?_, ?_⟩, rfl, rfl, ?_⟩,
    gets ((playing 0 0).modZone 63 (fun z => { z with lock := .console 0 })) ⟨4093, 100, kPaAbort, [63, 0]⟩, _,
    ⟨rfl, by decide +kernel, by decide +kernel⟩, by decide +kernel⟩ <;> (revert l h; decide +kernel)

/-! ## Requests -/

/-- Without the privilege, in the state that does not allow the request, and with a malformed payload. -/
theorem witness_RefusedRequestsChangeNothing :
    (∃ (s : State) (c : Sender) (payload : List Byte), (Instr.clearIncident, 0xD7, none, Admitted.either) ∈ requestTable ∧
      s.asks 0xC1 c payload ∧ (Instr.startOperation, 0xC1, some .supervisor, Admitted.configuring) ∈ requestTable ∧
      c.holds (some .supervisor) = false) ∧
    (∃ (s : State) (c : Sender) (payload : List Byte), s.asks 0xC2 c payload ∧
      (Instr.stopOperation, 0xC2, some .supervisor, Admitted.running) ∈ requestTable ∧
      Admitted.running.here s.hnd.op = false ∧ c.holds (some .supervisor) = true ∧ requestParses 0xC2 payload = true) ∧
    (∃ (s : State) (c : Sender) (payload : List Byte), s.asks 0xC2 c payload ∧ c.holds (some .supervisor) = false ∧
      requestParses 0xC2 payload = false) :=
  ⟨⟨ask line clerk 0xC1 [], clerk, [], by decide, ask_asks (by decide), by decide, by decide⟩,
   ⟨ask (configuring line) chief 0xC2 [], chief, [], ask_asks (by decide), by decide, by decide, by decide, by decide⟩,
   ⟨ask line clerk 0xC2 [0], clerk, [0], ask_asks (by decide), by decide, by decide⟩⟩

theorem witness_StatusReportsAndClears :
    ∃ (s : State) (c : Sender), s.asks 0xC0 c [] ∧ c.privs.has .view = true :=
  ⟨ask line viewer 0xC0 [], viewer, ask_asks (by decide), rfl⟩

/-- The last part of a record, a part past it, and a record that does not exist. -/
theorem witness_QueryReturnsOnePart :
    (∃ (s : State) (c : Sender) (typ h l n : Byte) (bytes : List Byte), s.asks 0xDE c [typ, h, l, n] ∧
      c.privs.has .view = true ∧ s.record typ.toNat (256 * h.toNat + l.toNat) = .ok bytes ∧
      n.toNat + 1 = (bytes.length + 47) / 48) ∧
    (∃ (s : State) (c : Sender) (typ h l n : Byte) (bytes : List Byte), s.asks 0xDE c [typ, h, l, n] ∧
      c.privs.has .view = true ∧ s.record typ.toNat (256 * h.toNat + l.toNat) = .ok bytes ∧
      n.toNat = (bytes.length + 47) / 48) ∧
    (∃ (s : State) (c : Sender) (typ h l n : Byte), s.asks 0xDE c [typ, h, l, n] ∧
      c.privs.has .view = true ∧ s.record typ.toNat (256 * h.toNat + l.toNat) = .error .badArgument) :=
  ⟨⟨ask line viewer 0xDE [1, 0, 63, 1], viewer, 1, 0, 63, 1, platformBytes, ask_asks (by decide), rfl, by decide +kernel⟩,
   ⟨ask line viewer 0xDE [1, 0, 63, 2], viewer, 1, 0, 63, 2, platformBytes, ask_asks (by decide), rfl, by decide +kernel⟩,
   ⟨ask line viewer 0xDE [1, 0, 64, 0], viewer, 1, 0, 64, 0, ask_asks (by decide), rfl, by decide +kernel⟩⟩

theorem witness_StartAndStop :
    (∃ (s : State) (c : Sender), s.asks 0xC1 c [] ∧ c.privs.supervisor = true ∧ s.hnd.op = .configuring ∧
      s.tim.clockSet = true) ∧
    (∃ (s : State) (c : Sender), s.asks 0xC1 c [] ∧ c.privs.supervisor = true ∧ s.hnd.op = .configuring ∧
      s.tim.clockSet = false) ∧
    (∃ (s : State) (c : Sender), s.asks 0xC2 c [] ∧ c.privs.supervisor = true ∧ s.hnd.op = .running) :=
  ⟨⟨ask (configuring line) chief 0xC1 [], chief, ask_asks (by decide), by decide⟩,
   ⟨ask ((configuring line).setTim {}) chief 0xC1 [], chief, ask_asks (by decide), by decide⟩,
   ⟨ask line chief 0xC2 [], chief, ask_asks (by decide), by decide⟩⟩

theorem witness_LoadsReplaceTheirEntry :
    (∃ (s : State) (e a p : Nat), s.asks 0xC6 chief (u8 e ++ u16 a ++ u8 p) ∧ chief.privs.supervisor = true ∧
      s.hnd.op = .configuring ∧ e < Config.consoles ∧ 1 ≤ a ∧ a ≤ 4093 ∧ 1 ≤ p ∧ p ≤ 15 ∧
      (∀ j x, j < Config.consoles → j ≠ e → s.console j = some x → x.addr ≠ a) ∧ (s.unit a).role = .unused ∧
      (8 ≤ p ∨ ∃ j x, j < Config.consoles ∧ j ≠ e ∧ s.console j = some x ∧ x.privs.supervisor = true)) ∧
    (∃ (s : State) (payload : List Byte) (l : UnitLoad) (u : UnitEntry), s.asks 0xC7 chief payload ∧
      s.hnd.op = .configuring ∧ parseUnit payload = some l ∧ l.entry = some u ∧ (s.unit l.addr).role ≠ .train ∧
      (u.role = .unused ∨ s.anyConsole l.addr = false) ∧ (s.supervision l.addr).silent = false) ∧
    (∃ (s : State) (n code : Nat), s.asks 0xC8 chief (u8 n ++ u16 code) ∧ s.hnd.op = .configuring ∧ n < Config.stations ∧
      1 ≤ code ∧ code ≤ 3999) ∧
    (∃ (s : State) (payload : List Byte) (n : Nat) (es : List Element), s.asks 0xCE chief payload ∧
      parseTemplate payload = some (n, es.map some) ∧ n < Config.templates ∧ 1 ≤ es.length ∧ es.length ≤ 24) ∧
    (∃ (s : State) (payload : List Byte) (l : ClassLoad), s.asks 0xCC chief payload ∧ parseClasses payload = some l ∧
      l.ok = true) ∧
    (∃ (s : State) (payload : List Byte) (l : KindLoad) (k : Kind), s.asks 0xCD chief payload ∧
      parseKind payload = some l ∧ l.entry (s.kind l.kind) = some k ∧ l.kind = 31) :=
  ⟨⟨ask (configuring line) chief 0xC6 (u8 7 ++ u16 4092 ++ u8 1), 7, 4092, 1, ask_asks (by decide), rfl, rfl, by decide,
    by decide, by decide, by decide, by decide, by
      have h : ∀ j < 8, j ≠ 7 → ∀ x ∈ (line.console j), x.addr ≠ 4092 := by decide +kernel
      exact fun j x hj hn hx => h j hj hn x hx,
    by decide +kernel, .inr ⟨0, ⟨100, allPrivs⟩, by decide +kernel⟩⟩,
   ⟨ask (configuring line) chief 0xC7 (u16 4092 ++ [2, 15, 2, 3]), u16 4092 ++ [2, 15, 2, 3], ⟨4092, 2, 15, 2, some 3⟩,
    ⟨.substation, 15, .both, some 3⟩, ask_asks (by decide), by decide +kernel⟩,
   ⟨ask (configuring line) chief 0xC8 (u8 39 ++ u16 3999), 39, 3999, ask_asks (by decide), by decide +kernel⟩,
   ⟨ask line chief 0xCE ([127, 1] ++ u16 3999), [127, 1] ++ u16 3999, 127, [.code 3999], ask_asks (by decide), by decide +kernel⟩,
   ⟨ask line chief 0xCC classBytes, classBytes, ⟨(100, 200, 300, 400), (8, 16, 32, 64), 0⟩, ask_asks (by decide), by decide +kernel⟩,
   ⟨ask line chief 0xCD [31, 1, 4, 0, 60, 0, 1, 0, 255], [31, 1, 4, 0, 60, 0, 1, 0, 255],
    { kind := 31, present := some true, severity := 4, ackLimit := 60, selfClearing := some false, clearPriv := 1,
      templates := [], clearance := none, clearanceCls := none },
    { present := true, severity := 4, ackLimit := 60, selfClearing := false, clearPriv := .power }, ask_asks (by decide),
    by decide +kernel⟩⟩

/-- A position emptied, the asking console's own among them, while another console holds SUPERVISOR. -/
theorem witness_LoadsReplaceTheirEntry_empties :
    ∀ e ∈ [0, 3, 7], ∃ s : State, s.asks 0xC6 chief (u8 e ++ u16 65535) ∧ s.hnd.op = .configuring ∧ e < Config.consoles ∧
      ∃ j x, j < Config.consoles ∧ j ≠ e ∧ s.console j = some x ∧ x.privs.supervisor = true :=
  fun e h => ⟨ask ((configuring line).setConsole 1 (some ⟨103, allPrivs⟩)) chief 0xC6 (u8 e ++ u16 65535),
    ask_asks (by decide +kernel), rfl, by revert e h; decide +kernel, 1, ⟨103, allPrivs⟩, by revert e h; decide +kernel⟩

/-- LOAD UNIT at a silent address: a substation that stays what it is; a substation, a PA unit whose zone is in FAULT with cause
SILENCE, and a station, each of which changes. -/
theorem witness_LoadsReplaceTheirEntry_silent :
    ∀ x ∈ [(201, Role.substation, 15, 2), (201, .unused, 0, 0), (4093, .station, 3, 5), (203, .display, 0, 4)],
      ∃ (s : State) (payload : List Byte) (l : UnitLoad) (u : UnitEntry), s.asks 0xC7 chief payload ∧
        s.hnd.op = .configuring ∧ parseUnit payload = some l ∧ l.entry = some u ∧ (s.unit l.addr).role ≠ .train ∧
        (u.role = .unused ∨ s.anyConsole l.addr = false) ∧ (s.supervision l.addr).silent = true ∧ l.addr = x.1 ∧
        u.role = x.2.1 ∧ u.index = x.2.2.1 ∧ (s.zone 63).loaded = true ∧ (s.zone 63).addr = some 4093 ∧
        (s.zone 63).st = .fault ∧ (s.zone 63).cause = some .silence :=
  fun x h => ⟨ask (((configuring line).modZone 63 (fun z => { z with st := .fault, cause := some .silence })).setSupervision x.1
      { silent := true }) chief 0xC7 (u16 x.1 ++ u8 x.2.2.2 ++ u8 x.2.2.1 ++ [1, 255]),
    u16 x.1 ++ u8 x.2.2.2 ++ u8 x.2.2.1 ++ [1, 255], ⟨x.1, x.2.2.2, x.2.2.1, 1, none⟩, ⟨x.2.1, x.2.2.1, .act, none⟩,
    ask_asks (by revert x h; decide +kernel), by revert x h; decide +kernel⟩

theorem witness_LineLoadsSetRecords :
    (∃ (s : State) (payload : List Byte) (l : PlatformLoad) (m : Mode), s.asks 0xC9 chief payload ∧
      s.hnd.op = .configuring ∧ parsePlatform payload = some l ∧ l.ok = true ∧ modeOf l.mode = some m ∧ l.platform = 63) ∧
    (∃ (s : State) (k cap w : Nat), s.asks 0xCA chief (u8 k ++ u16 cap ++ u8 w) ∧ s.hnd.op = .configuring ∧
      k < Config.sections ∧ cap ≤ 20000 ∧ 4 ≤ w ∧ w ≤ 60 ∧ cap = 20000 ∧ k = 39) ∧
    (∃ (s : State) (i sub num k : Nat), s.asks 0xCB chief (u8 i ++ u8 sub ++ u8 num ++ u8 k) ∧ s.hnd.op = .configuring ∧
      i < Config.feeders ∧ sub < Config.substations ∧ num ≤ 7 ∧ k < Config.sections ∧ (s.sect k).loaded = true ∧
      (∀ j, j < Config.feeders → j ≠ i → (s.feeder j).loaded = true → (s.feeder j).substation = sub →
        (s.feeder j).number ≠ num) ∧ ((s.feedersOf k).filter (fun j => decide (j ≠ i))).length < 4) ∧
    (∃ (s : State) (z a st p : Nat), s.asks 0xCF chief (u8 z ++ u16 a ++ u8 st ++ u8 p) ∧ s.hnd.op = .configuring ∧
      z < Config.zones ∧ 1 ≤ a ∧ a ≤ 4093 ∧ st < Config.stations ∧ p < Config.platforms) ∧
    (∃ s : State, s.asks 0xCF chief (u8 63 ++ u16 1 ++ u8 39 ++ u8 255) ∧ s.hnd.op = .configuring) :=
  ⟨⟨ask (configuring line) chief 0xC9 platformLoad, platformLoad, _, .timetable, ask_asks (by decide), by decide, rfl,
    by decide +kernel⟩,
   ⟨ask (configuring line) chief 0xCA (u8 39 ++ u16 20000 ++ u8 60), 39, 20000, 60, ask_asks (by decide), by decide⟩,
   ⟨ask (configuring line) chief 0xCB (u8 0 ++ u8 15 ++ u8 0 ++ u8 39), 0, 15, 0, 39, ask_asks (by decide), by decide +kernel⟩,
   ⟨ask (configuring line) chief 0xCF (u8 63 ++ u16 4093 ++ u8 39 ++ u8 63), 63, 4093, 39, 63, ask_asks (by decide), by decide⟩,
   ⟨ask (configuring line) chief 0xCF (u8 63 ++ u16 1 ++ u8 39 ++ u8 255), ask_asks (by decide), rfl⟩⟩

theorem witness_BindAndReleaseTrain :
    (∃ (s : State) (n a trip cls : Nat), clerk.privs.has .dispatch = true ∧ n < Config.slots ∧
      s.asks 0xD0 clerk (u8 n ++ u16 a ++ u16 trip ++ u8 cls) ∧ 1 ≤ a ∧ a ≤ 4093 ∧ trip < 65536 ∧ cls < 4 ∧
      (s.slot n).st = .free ∧ (s.unit a).role = .unused ∧ s.anyConsole a = false) ∧
    (∃ (s : State) (n : Nat), n < Config.slots ∧ s.asks 0xD1 clerk (u8 n) ∧ (s.slot n).st ≠ .free) ∧
    (∃ (s : State) (n : Nat), n < Config.slots ∧ s.asks 0xD1 clerk (u8 n) ∧ (s.slot n).st = .free) :=
  ⟨⟨ask line clerk 0xD0 (u8 0 ++ u16 4092 ++ u16 65535 ++ u8 3), 0, 4092, 65535, 3, rfl, by decide, ask_asks (by decide),
    by decide +kernel⟩,
   ⟨ask line clerk 0xD1 (u8 47), 47, by decide, ask_asks (by decide), by decide +kernel⟩,
   ⟨ask line clerk 0xD1 (u8 0), 0, by decide, ask_asks (by decide), by decide +kernel⟩⟩

/-- A ring that the records fill; one that is full; a trip that is PENDING, one that is ACTIVE, one that is not there. -/
theorem witness_AppendAndCancelCalls :
    (∃ (s : State) (p : Nat) (payload : List Byte) (rs : List CallRecord), p < Config.platforms ∧ (s.plat p).loaded = true ∧
      s.asks 0xD2 clerk payload ∧ parseAppend payload = some (p, rs) ∧ rs.all callOk = true ∧
      (s.plat p).ring.length + rs.length = 32 ∧ ((s.plat p).ring.map CallRecord.schedDep).Pairwise (· ≤ ·) ∧
      (((s.plat p).ring ++ rs).map CallRecord.schedDep).Pairwise (· ≤ ·)) ∧
    (∃ (s : State) (p : Nat) (payload : List Byte) (rs : List CallRecord), p < Config.platforms ∧ (s.plat p).loaded = true ∧
      s.asks 0xD2 clerk payload ∧ parseAppend payload = some (p, rs) ∧ rs.all callOk = true ∧
      (s.plat p).ring.length + rs.length = 33) ∧
    (∃ (s : State) (p trip : Nat), p < Config.platforms ∧ (s.plat p).loaded = true ∧ s.asks 0xD3 clerk (u8 p ++ u16 trip) ∧
      trip < 65536 ∧ (s.plat p).ring.find? (fun r => decide (r.trip = trip) && !r.disp.finished) = some call) ∧
    (∃ (s : State) (p trip : Nat) (r : CallRecord), p < Config.platforms ∧ (s.plat p).loaded = true ∧
      s.asks 0xD3 clerk (u8 p ++ u16 trip) ∧ trip < 65536 ∧
      (s.plat p).ring.find? (fun r => decide (r.trip = trip) && !r.disp.finished) = some r ∧ r.disp = .active) ∧
    (∃ (s : State) (p trip : Nat), p < Config.platforms ∧ (s.plat p).loaded = true ∧ s.asks 0xD3 clerk (u8 p ++ u16 trip) ∧
      trip < 65536 ∧ (s.plat p).ring.find? (fun r => decide (r.trip = trip) && !r.disp.finished) = none) :=
  ⟨⟨ask (line.setPlat 63 { platform with ring := List.replicate 31 call }) clerk 0xD2 callBytes, 63, callBytes, _, by decide,
    by decide +kernel, ask_asks (by decide), rfl, by decide +kernel⟩,
   ⟨ask (line.setPlat 63 { platform with ring := List.replicate 32 call }) clerk 0xD2 callBytes, 63, callBytes, _, by decide,
    by decide +kernel, ask_asks (by decide), rfl, by decide +kernel⟩,
   ⟨ask line clerk 0xD3 (u8 63 ++ u16 7), 63, 7, by decide, by decide +kernel, ask_asks (by decide), by decide +kernel⟩,
   ⟨ask standing clerk 0xD3 (u8 63 ++ u16 7), 63, 7, { call with disp := .active, slot := some 47, arrival := some 19990 },
    by decide, by decide +kernel, ask_asks (by decide), by decide +kernel⟩,
   ⟨ask line clerk 0xD3 (u8 63 ++ u16 65535), 63, 65535, by decide, by decide +kernel, ask_asks (by decide), by decide +kernel⟩⟩

/-- The record sent lies one eighth before the ring's tail; and of two records the later lies one eighth before the first. -/
theorem witness_AppendAndCancelCalls_outOfOrder :
    let sent (s : Nat) : CallRecord := { trip := 65535, dest := 39, schedArr := 20000, schedDep := s, dmin := 255 }
    let bytes (s : Nat) : List Byte := u16 65535 ++ [39] ++ u24 20000 ++ u24 s ++ [255]
    ∀ x ∈ [([63, 1] ++ bytes 20099, [sent 20099]), ([63, 2] ++ bytes 20101 ++ bytes 20100, [sent 20101, sent 20100])],
      ∃ s : State, (s.plat 63).loaded = true ∧ s.asks 0xD2 clerk x.1 ∧ parseAppend x.1 = some (63, x.2) ∧
        x.2.all callOk = true ∧ (s.plat 63).ring.getLast? = some call ∧ call.schedDep = 20100 :=
  fun x h => ⟨ask line clerk 0xD2 x.1, rfl, ask_asks (by decide), by revert x h; decide +kernel⟩

theorem witness_PlatformModeAndArming :
    (∃ (s : State) (p : Nat) (m : Mode), clerk.privs.has .dispatch = true ∧ p < Config.platforms ∧ (s.plat p).loaded = true ∧
      s.asks 0xD4 clerk (u8 p ++ u8 m.code)) ∧
    (∀ template ∈ [some 127, none], ∃ (s : State) (p cls : Nat) (repeating : Bool), p < Config.platforms ∧
      (s.plat p).loaded = true ∧ s.asks 0xDB clerk (u8 p ++ o8 template ++ u8 cls ++ flag repeating) ∧
      (∀ n, template = some n → n < Config.templates) ∧ 1 ≤ cls ∧ cls ≤ 4) :=
  ⟨⟨ask line clerk 0xD4 (u8 63 ++ u8 Mode.headway.code), 63, .headway, rfl, by decide, by decide, ask_asks (by decide)⟩,
   fun template h => ⟨ask line clerk 0xDB (u8 63 ++ o8 template ++ u8 4 ++ flag true), 63, 4, true, by decide, rfl,
     ask_asks (by decide), by rintro n rfl; simp at h; subst h; decide, by decide⟩⟩

/-- A new incident; a second occurrence of one; a full table. -/
theorem witness_RaiseIncidentMakesEntry :
    (∃ (s : State) (payload : List Byte) (a : RaiseReq) (loc : Location) (ts : List EffectTemplate),
      s.asks 0xD5 clerk payload ∧ clerk.privs.has .dispatch = true ∧ s.hnd.op = .running ∧ parseRaise payload = some a ∧
      s.raiseArgs a = some (loc, ts) ∧ s.openIncident a.kind loc = none ∧ s.freeIncident = some 0) ∧
    (∃ (s : State) (payload : List Byte) (a : RaiseReq) (loc : Location) (ts : List EffectTemplate) (v : Incident),
      s.asks 0xD5 clerk payload ∧ s.hnd.op = .running ∧ parseRaise payload = some a ∧
      s.raiseArgs a = some (loc, ts) ∧ s.openIncident a.kind loc = some 63 ∧ s.incident 63 = some v) ∧
    (∃ (s : State) (payload : List Byte) (a : RaiseReq) (loc : Location) (ts : List EffectTemplate),
      s.asks 0xD5 clerk payload ∧ s.hnd.op = .running ∧ parseRaise payload = some a ∧
      s.raiseArgs a = some (loc, ts) ∧ s.openIncident a.kind loc = none ∧ s.freeIncident = none ∧ s.inc.cleared = []) :=
  ⟨⟨ask reporting clerk 0xD5 [31, 6, 0, 255, 0], _, ⟨31, 6, 0, none, []⟩, ⟨.line, 0⟩, [], ask_asks (by decide), rfl, rfl, rfl,
    by decide +kernel⟩,
   ⟨ask (reporting.setIncident 63 (some { incident with kind := 31 })) clerk 0xD5 [31, 6, 0, 4, 0], _, ⟨31, 6, 0, some 4, []⟩,
    ⟨.line, 0⟩, [], { incident with kind := 31 }, ask_asks (by decide), rfl, rfl, by decide +kernel⟩,
   ⟨ask (crowded reporting []) clerk 0xD5 [31, 6, 0, 1, 0], _, ⟨31, 6, 0, some 1, []⟩, ⟨.line, 0⟩, [], ask_asks (by decide), rfl, rfl, by decide +kernel⟩⟩

/-- A full table with the last entry on the cleared list, nothing waiting and room for the notice FREED. -/
theorem witness_RaiseIncidentMakesEntry_reuse :
    ∃ s : State, s.asks 0xD5 clerk [31, 6, 0, 1, 0] ∧ s.hnd.op = .running ∧
      s.raiseArgs ⟨31, 6, 0, some 1, []⟩ = some (⟨.line, 0⟩, []) ∧ s.openIncident 31 ⟨.line, 0⟩ = none ∧
      s.freeIncident = none ∧ s.inc.cleared = [63] ∧ (s.incident 63).isSome ∧ s.incNotice 63 = none ∧ s.inc.order = [] ∧
      s.hasRoom .console .urgent = true :=
  ⟨ask (crowded reporting [63]) clerk 0xD5 [31, 6, 0, 1, 0], ask_asks (by decide), rfl, by decide +kernel⟩

/-- For each state of the incident, an acknowledgement and a clear; and a clear without the kind's privilege. -/
theorem witness_AcknowledgeAndClear :
    (∀ st ∈ [IncState.activeUnack, .activeAck, .clearedUnack], ∃ (s : State) (v : Incident), s.entryOf 65535 = some 63 ∧
      s.incident 63 = some v ∧ v.st = st ∧ s.asks 0xD6 clerk (u16 65535) ∧ clerk.privs.has .dispatch = true) ∧
    (∀ st ∈ [IncState.activeUnack, .activeAck, .clearedUnack], ∃ (s : State) (v : Incident), s.entryOf 65535 = some 63 ∧
      s.incident 63 = some v ∧ v.st = st ∧ s.asks 0xD7 clerk (u16 65535) ∧
      clerk.privs.has (s.kind v.kind).clearPriv = true) ∧
    (∃ (s : State) (v : Incident), s.entryOf 65535 = some 63 ∧ s.incident 63 = some v ∧
      s.asks 0xD7 viewer (u16 65535) ∧ viewer.privs.has (s.kind v.kind).clearPriv = false) :=
  ⟨fun st h => ⟨ask (line.setIncident 63 (some { incident with st := st })) clerk 0xD6 (u16 65535), { incident with st := st },
     by revert st h; decide +kernel, by revert st h; decide +kernel, rfl, ask_asks (by revert st h; decide +kernel), rfl⟩,
   fun st h => ⟨ask (line.setIncident 63 (some { incident with st := st })) clerk 0xD7 (u16 65535), { incident with st := st },
     by revert st h; decide +kernel, by revert st h; decide +kernel, rfl, ask_asks (by revert st h; decide +kernel),
     by revert st h; decide +kernel⟩,
   ⟨ask (line.setIncident 63 (some incident)) viewer 0xD7 (u16 65535), incident, by decide +kernel, by decide +kernel,
    ask_asks (by decide +kernel), by decide +kernel⟩⟩

theorem witness_IsolateAndEnergiseSection :
    (∃ s : State, clerk.privs.has .power = true ∧ s.hnd.op = .running ∧ (s.sect 39).loaded = true ∧ s.asks 0xD8 clerk (u8 39) ∧
      s.breakers 39 ≠ .allOpen ∧ (s.sect 39).st = .energised) ∧
    (∃ s : State, s.hnd.op = .running ∧ (s.sect 39).loaded = true ∧ s.asks 0xD8 clerk (u8 39) ∧ s.breakers 39 = .allOpen) ∧
    (∀ v ∈ [SectState.isolating, .energised, .isolated], ∃ s : State, s.hnd.op = .running ∧ (s.sect 39).loaded = true ∧
      s.asks 0xD9 clerk (u8 39) ∧ (s.sect 39).st = v ∧ s.interlocked 39 = false) ∧
    (∃ s : State, s.hnd.op = .running ∧ (s.sect 39).loaded = true ∧ s.asks 0xD9 clerk (u8 39) ∧
      (s.sect 39).st = .tripped ∧ s.interlocked 39 = true) :=
  ⟨⟨ask line clerk 0xD8 (u8 39), rfl, rfl, by decide, ask_asks (by decide), by decide +kernel⟩,
   ⟨ask (line.setFeeder 63 { feeder with breaker := .opened }) clerk 0xD8 (u8 39), rfl, by decide +kernel,
    ask_asks (by decide +kernel), by decide +kernel⟩,
   fun v h => ⟨ask (line.setSect 39 { energised with st := v }) clerk 0xD9 (u8 39), rfl, by revert v h; decide +kernel,
     ask_asks (by revert v h; decide +kernel), by revert v h; decide +kernel⟩,
   ⟨ask { line.setSect 39 { energised with st := .tripped } with inc := { interlock := [(39, true)] } } clerk 0xD9 (u8 39), rfl,
    by decide +kernel, ask_asks (by decide +kernel), by decide +kernel⟩⟩

/-- A duplicate; a queue with room in a zone in FAULT; a full queue without a lower class. -/
theorem witness_AnnounceOffersEntry :
    ∀ q ∈ [[announcement], [], List.replicate 8 { announcement with arg1 := 0 }], ∃ s : State,
      s.asks 0xDA clerk (u8 127 ++ u8 1 ++ u8 3 ++ u8 255 ++ u8 99 ++ u8 1 ++ u8 63) ∧ clerk.privs.has .dispatch = true ∧
      s.hnd.op = .running ∧ (s.zone 63).loaded = true ∧ (s.zone 63).st = .fault ∧ (s.zone 63).queue = q :=
  fun q h => ⟨ask (line.setZone 63 { zone with st := .fault, cause := some .reported, queue := q }) clerk 0xDA
      (u8 127 ++ u8 1 ++ u8 3 ++ u8 255 ++ u8 99 ++ u8 1 ++ u8 63),
    ask_asks (by revert q h; decide +kernel), rfl, rfl, by revert q h; decide +kernel⟩

/-- What an EMERGENCY announcement finds: a full queue with a lower class; an IDLE zone that starts it, resumes a suspended
EMERGENCY entry, starts one afresh after 481 eighths, and discards a stale ROUTINE one; a lower class in flight, waiting for
room, at the boundary of a FRAME DONE with a play that went on and with one that started or resumed there, and in a gap. -/
theorem witness_AnnounceOffersEntry_selects :
    ∀ x ∈ [(ZoneState.fault, (List.range 8).map (fun i => entry (1 + i % 3) i .queued 0), (none : Option Outstanding)),
           (.idle, [], none), (.idle, [entry 4 0 .suspended 19520], none), (.idle, [entry 4 0 .suspended 19519], none),
           (.idle, [entry 1 0 .suspended 19039], none), (.sending, [entry 3 0 .playing 0], some ⟨1, 255, true, 0, none, none⟩),
           (.sending, [entry 3 0 .playing 0], some ⟨1, 255, false, 0, none, none⟩),
           (.sending, [entry 3 0 .playing 0], some ⟨1, 255, true, 0, some 20000, none⟩),
           (.sending, [entry 2 0 .suspended 20000, entry 3 0 .playing 0],
             some ⟨0, 255, true, 0, some 20000, some { entry := entry 3 0 .queued 0, suspBuf := {} }⟩),
           (.sending, [entry 3 0 .playing 0],
             some ⟨1, 255, false, 0, some 20000, some { entry := entry 3 0 .suspended 19990, suspBuf := {} }⟩), (.gap, [entry 3 0 .playing 0], none)],
      ∃ s : State, s.asks 0xDA clerk (u8 127 ++ u8 4 ++ u8 3 ++ u8 255 ++ u8 99 ++ u8 1 ++ u8 63) ∧ s.now = 20000 ∧
        s.hnd.op = .running ∧ (s.zone 63).loaded = true ∧ (s.zone 63).st = x.1 ∧ (s.zone 63).queue = x.2.1 ∧
        (s.zone 63).outstanding = x.2.2 ∧ (s.compose (s.zone 63) (entry 4 255 .queued 0)).codes ≠ [] :=
  fun x h => ⟨ask (sounding x.1 x.2.1 x.2.2) clerk 0xDA (u8 127 ++ u8 4 ++ u8 3 ++ u8 255 ++ u8 99 ++ u8 1 ++ u8 63),
    ask_asks (by revert x h; decide +kernel), rfl, rfl, by revert x h; decide +kernel⟩

theorem witness_ZoneLocks :
    (∀ l ∈ [Lock.unlocked, .console 7, .console 0, .incident 1], ∃ s : State, (s.zone 63).loaded = true ∧
      s.asks 0xDC clerk (u8 63) ∧ s.hnd.op = .running ∧ (s.zone 63).lock = l) ∧
    (∀ l ∈ [Lock.unlocked, .console 7, .console 0, .incident 1], ∃ s : State, (s.zone 63).loaded = true ∧
      s.asks 0xDD clerk (u8 63) ∧ (s.zone 63).lock = l) ∧
    (∃ s : State, (s.zone 63).loaded = true ∧ s.running = true ∧ (s.zone 63).lock = .console 7 ∧
      (s.zone 63).lockInstant < Config.maxTime ∧ min ((s.zone 63).lockInstant + 7200) Config.maxTime = s.now) :=
  ⟨fun l h => ⟨ask (line.setZone 63 { zone with lock := l }) clerk 0xDC (u8 63), by revert l h; decide +kernel,
     ask_asks (by revert l h; decide +kernel), rfl, by revert l h; decide +kernel⟩,
   fun l h => ⟨ask (line.setZone 63 { zone with lock := l }) clerk 0xDD (u8 63), by revert l h; decide +kernel,
     ask_asks (by revert l h; decide +kernel), by revert l h; decide +kernel⟩,
   ⟨line.setZone 63 { zone with lock := .console 7, lockInstant := 12800 }, by decide +kernel⟩⟩

/-! ## What every step keeps: a state that meets every condition, with a command that runs in it -/

theorem witness_invariants :
    ∃ s t : State, step s = .next t ∧ s.running = true ∧ s.pending = [.lineTimeStep] ∧ s.tim.inRange ∧ s.portsInRange ∧
      s.zonesInRange ∧ s.outcomesInRange ∧ s.roomsHold ∧ s.faultsPlayNothing ∧ s.zonesPlayOne ∧ s.law12 ∧ s.law6 ∧
      s.callsServedOnce ∧ s.tablesWf := by
  refine ⟨{ line with pending := [.lineTimeStep] }, _, rfl, rfl, rfl, ?_, ?_, ?_, ?_, ?_, faultsPlayNothing_of_test (by decide),
    zonesPlayOne_of_test (by decide), ?_, ?_, ?_, ?_⟩
  · unfold Timing.inRange; decide
  · unfold State.portsInRange PortState.inRange; decide
  · intro k
    by_cases h : k = 63
    · subst h; decide
    · have : (line.zone k) = {} := by simp [State.zone, line, Tab.get, h]
      show (line.zone k).queue.length ≤ 8
      rw [this]; decide
  · unfold State.outcomesInRange; decide
  · intro p q b h
    cases p <;> cases q <;> cases h
  · unfold State.law12; decide +kernel
  · intro p
    by_cases h : p = 63
    · subst h; decide
    · have : (line.plat p) = {} := by simp [State.plat, line, Tab.get, h]
      show (line.plat p).ring.length ≤ 32 ∧ ((line.plat p).ring.map CallRecord.schedDep).Pairwise (· ≤ ·)
      rw [this]; decide
  · intro p
    by_cases h : p = 63
    · subst h; exact servesOne_of_test (by decide)
    · have : (line.plat p) = {} := by simp [State.plat, line, Tab.get, h]
      show (line.plat p).servesOne
      rw [this]; exact servesOne_of_test (by decide)
  · unfold State.tablesWf; decide +kernel

end Sys2Proof.Tests
end

