-- ==== Sys2Proof/Proofs/Escalation.lean ====
section
/-! SUPPORT. The escalation of an incident at its acknowledgement deadline (R102), from what making an INCIDENT NOTICE due
does (R108). -/

namespace Sys2Proof.Machine

/-! ## An INCIDENT NOTICE made due (R108) -/

/-- Between `s` and `t` the notice `n` of entry `i` has been made due: its frame has joined the console queue of its severity
from an idle slot, or it stands in the slot, with whatever change count and superseded number the slot gives it. -/
def State.incNoticeMade (s t : State) (i : Nat) (n : IncNotice) : Prop :=
  (s.incNotice i = none ∧ t.incNotice i = none ∧
    t.consolePort.queue n.lane = s.consolePort.queue n.lane ++ [n.frame]) ∨
  ∃ count superseded, t.incNotice i = some { n with count := count, superseded := superseded }

/-- A frame that joins a console queue is its last. -/
theorem State.enqueue_console_queue (s : State) (q : Lane) (f : Frame) :
    (s.enqueue .console q f).consolePort.queue q = s.consolePort.queue q ++ [f] := by
  cases q <;> rfl

/-- The end of an event moves no frame of a console queue. -/
theorem State.prune_console_queue (s : State) (q : Lane) : s.prune.consolePort.queue q = s.consolePort.queue q := by
  rw [State.prune_consolePort]
  cases q <;> rfl

theorem State.incNoticeMade_incDue (s : State) (i : Nat) (n : IncNotice) : s.incNoticeMade (s.incDue i n) i n := by
  unfold State.incDue
  cases hold : s.incNotice i with
  | none =>
    dsimp only
    split
    · exact .inl ⟨hold, by simp [hold], s.enqueue_console_queue n.lane n.frame⟩
    · exact .inr ⟨n.count, n.superseded, by simp⟩
  | some old => exact .inr ⟨_, _, State.incNotice_setIncNotice_self ..⟩

theorem State.incNoticeMade.prune {s t : State} {i : Nat} {n : IncNotice} (h : s.incNoticeMade t i n) :
    s.incNoticeMade t.prune i n := by
  simpa only [State.incNoticeMade, State.prune_keeps, State.prune_console_queue] using h

/-! ## The escalation (R102) -/

/-- The incident `v` one severity higher, to at most 4, with its deadline renewed. -/
def State.escalated (s : State) (v : Incident) : Incident :=
  { v with severity := min (v.severity + 1) 4,
           deadline := if s.now = Config.maxTime then none
                       else some (min (s.now + 8 * (s.kind v.kind).ackLimit) Config.maxTime) }

/-- The ESCALATED notice of an incident `v` still to be escalated. -/
def State.escalationNotice (s : State) (v : Incident) : IncNotice := (s.escalated v).notice (some v.st) .escalated

/-- An instant set before the last line time is not later than it. -/
theorem State.instant_of_ne {s : State} (h : s.now ≠ Config.maxTime) (t : Nat) : s.instant t = min t Config.maxTime :=
  if_neg h

/-- An instant of a RUNNING part is reached when a step has come to it. -/
theorem State.reached_of_le {s : State} {d : Nat} (hrun : s.running = true) (h : d ≤ s.now) :
    s.reached (some d) = true :=
  Bool.and_eq_true_iff.mpr ⟨hrun, decide_eq_true h⟩

/-- The escalation writes the escalated incident and makes its notice due. -/
theorem State.escalate_eq (s : State) (i : Nat) (v : Incident) :
    s.escalate i v = (s.setIncident i (some (s.escalated v))).incDue i (s.escalationNotice v) := by
  unfold State.escalate State.escalationNotice State.escalated State.ackDeadline
  by_cases h : s.now = Config.maxTime
  · simp only [h, if_true]
  · simp only [h, if_false, State.instant_of_ne h]

theorem State.incident_escalate (s : State) (i j : Nat) (v : Incident) :
    (s.escalate i v).incident j = if j = i then some (s.escalated v) else s.incident j := by
  simp [State.escalate_eq, State.incident_setIncident]

theorem State.incNoticeMade_escalate (s : State) (i : Nat) (v : Incident) :
    s.incNoticeMade (s.escalate i v) i (s.escalationNotice v) := by
  rw [State.escalate_eq]
  exact State.incNoticeMade_incDue (s.setIncident i (some (s.escalated v))) i (s.escalationNotice v)

/-! ## The event at the deadline -/

/-- The event of the escalation, up to its end. -/
theorem State.take_escalate (s : State) (i : Nat) (v : Incident) :
    s.take (fun s => s.escalate i v) = (State.escalate { s with event := s.event + 1 } i v).prune := rfl

theorem State.take_escalate_onlyChanges (s : State) (i : Nat) (v : Incident) :
    s.onlyChanges (s.take (fun s => s.escalate i v)) [.inc, .consolePort] := by
  apply State.leaves.onlyChanges
  simp [State.leaves]

theorem State.take_escalate_incident (s : State) (i j : Nat) (v : Incident) :
    (s.take (fun s => s.escalate i v)).incident j = if j = i then some (s.escalated v) else s.incident j := by
  simp only [State.take_escalate, State.prune_keeps]
  exact State.incident_escalate { s with event := s.event + 1 } i j v

theorem State.take_escalate_incNoticeMade (s : State) (i : Nat) (v : Incident) :
    s.incNoticeMade (s.take (fun s => s.escalate i v)) i (s.escalationNotice v) :=
  (State.incNoticeMade_escalate { s with event := s.event + 1 } i v).prune

/-- A reached acknowledgement deadline of an ACTIVE-UNACK incident is taken as one event. -/
theorem exec_acknowledgementDeadline_of_reached {s : State} {i : Nat} {v : Incident} (hi : i < Config.entries)
    (hv : s.incident i = some v) (hst : v.st = .activeUnack) (hd : s.reached v.deadline = true) :
    exec (.acknowledgementDeadline i) s = .next (s.take (fun s => s.escalate i v)) := by
  show execAcknowledgementDeadline i s = _
  simp only [execAcknowledgementDeadline, Nat.not_le.mpr hi, if_false, hv, hst, hd, decide_true, Bool.and_self, if_true]

/-- Settles O30: the deadline's event escalates the incident and makes its notice due; everything else is kept. -/
theorem acknowledgementDeadlineEscalates : Obligations.AcknowledgementDeadlineEscalates := by
  intro s i d v hi hrun hv hst hd hle
  have hreached : s.reached v.deadline = true := hd ▸ State.reached_of_le hrun hle
  have hnotice := s.take_escalate_incNoticeMade i v
  rw [State.escalationNotice, hst] at hnotice
  refine ⟨_, exec_acknowledgementDeadline_of_reached hi hv hst hreached,
    (s.take_escalate_incident i i v).trans (if_pos rfl), ?notice,
    fun j hj => (s.take_escalate_incident i j v).trans (if_neg hj),
    ?_, ?_, ?_, ?_, ?_, ?_, s.take_escalate_onlyChanges i v⟩
  case notice =>
    obtain hqueued | ⟨count, superseded, hslot⟩ := hnotice
    · exact .inl hqueued
    · exact .inr ⟨_, hslot, rfl, rfl, rfl, rfl, rfl⟩
  all_goals simp [State.take_escalate]

end Sys2Proof.Machine
end

