-- ==== Sys2Proof/Proofs/PassThrough.lean ====
section
/-! SUPPORT. A pass-through telegram taken as one event (R176 to R180): it is refused with a REPLY and nothing else, or joins
the field port with at most a console-permit flag set; then what each kind's own check can answer. -/

namespace Sys2Proof.Machine

/-! ## A refusal (R180) -/

/-- A refusal is the request handler's answer with the destination as its result. -/
theorem State.refuse_eq_answer (s : State) (c : Sender) (f : Frame) (r : Reason) :
    s.refuse c f r = State.answer c f.kind (s, r, u16 f.dst) := rfl

theorem State.passes.turnedAway {s : State} {f : Frame} {c : Sender} (h : s.passes f c) (r : Reason) :
    s.turnedAway ((s.opened .console).refuse c f r).prune f c r := by
  obtain ⟨hfront, -, -⟩ := h
  obtain ⟨-, hhold, -⟩ := State.front_console hfront
  rw [State.refuse_eq_answer]
  refine ⟨State.leaves.answer c f.kind ?_ (by simp) (by simp), by simp, ?_⟩
  · simp [State.leaves]
  · exact State.replied_answer (by simp [hhold]) (by simp)

/-! ## A pass (R176, R178) -/

/-- A state whose ports are those of the telegram taken and passed has passed it, at the end of its event. -/
theorem State.passed_prune {s u : State} {f : Frame} (hfield : u.fieldPort = ((s.opened .console).pass f).fieldPort)
    (hconsole : u.consolePort = (s.opened .console).consolePort) : s.passed u.prune f := by
  have hroom : ∀ q, (s.opened .console).hasRoom .field q = s.hasRoom .field q :=
    fun q => State.hasRoom_congr (by simp)
  refine ⟨by simp [hconsole], ?_⟩
  simp only [State.prune_fieldPort, hfield, State.pass, State.queueOrDiscard, hroom]
  generalize (if urgentPassed f.kind = true then Lane.urgent else Lane.normal) = q
  by_cases hr : s.hasRoom .field q = true
  · cases q <;> simp [hr, State.enqueue, PortState.setQueue, PortState.queue]
  · simp [hr, State.countDiscard]

/-- `t` is `s` but for at most the console-permit flag of the slot that `f` is addressed to. -/
def State.marksAtMost (s t : State) (f : Frame) : Prop :=
  t = s ∨ ∃ n, s.trainOf f.dst = some n ∧ t = s.modSlot n (fun sl => { sl with consolePermit := true })

theorem State.markPermit_marksAtMost (s : State) (f : Frame) : s.marksAtMost (s.markPermit f) f := by
  unfold State.markPermit
  cases htrain : s.trainOf f.dst with
  | none => exact .inl rfl
  | some n =>
    dsimp only
    split
    · exact .inr ⟨n, htrain, rfl⟩
    · exact .inl rfl

theorem State.marksAtMost.leaves {s t : State} {f : Frame} (h : s.marksAtMost t f) :
    t.pending = s.pending ∧ t.resetHeld = s.resetHeld ∧ t.event = s.event ∧ t.hnd = s.hnd ∧ t.cls = s.cls ∧
    t.tim = s.tim ∧ t.reg = { s.reg with trains := t.reg.trains } ∧ t.pow = s.pow ∧ t.inc = s.inc ∧ t.com = s.com ∧
    t.fieldPort = s.fieldPort ∧ t.consolePort = s.consolePort := by
  obtain rfl | ⟨n, -, rfl⟩ := h
  · simp
  · simp [State.modSlot, State.setSlot_reg]

theorem State.marksAtMost.slot {s t : State} {f : Frame} (h : s.marksAtMost t f) (n : Nat) :
    t.slot n = s.slot n ∨ (s.trainOf f.dst = some n ∧ t.slot n = { s.slot n with consolePermit := true }) := by
  obtain rfl | ⟨m, htrain, rfl⟩ := h
  · exact .inl rfl
  · by_cases hn : n = m
    · subst hn
      exact .inr ⟨htrain, State.slot_modSlot_self ..⟩
    · exact .inl (State.slot_modSlot_ne _ _ hn)

/-! ## The event of a pass-through telegram (R176 to R180) -/

/-- The five reasons with which a pass-through telegram is refused (R180). -/
def Reason.refusesPass (r : Reason) : Prop :=
  r = .notFound ∨ r = .badArgument ∨ r = .notPermitted ∨ r = .interlocked ∨ r = .busy

/-- Between `s` and `t` the telegram `f` has been passed, with at most a console-permit flag set. -/
def State.passedAlone (s t : State) (f : Frame) : Prop :=
  s.passed t f ∧ s.onlyChanges t [.reg, .fieldPort, .consolePort] ∧ t.reg = { s.reg with trains := t.reg.trains } ∧
  ∀ n, t.slot n = s.slot n ∨ (s.trainOf f.dst = some n ∧ t.slot n = { s.slot n with consolePermit := true })

theorem State.passedAlone_prune {s u : State} {f : Frame} (h : ((s.opened .console).pass f).marksAtMost u f) :
    s.passedAlone u.prune f := by
  obtain ⟨hpending, hreset, hevent, hhnd, hcls, htim, hreg, hpow, hinc, hcom, hfield, hconsole⟩ := h.leaves
  refine ⟨State.passed_prune hfield (by simp [hconsole]), State.leaves.onlyChanges ?_, ?_, fun n => ?_⟩
  · simp [State.leaves, hpending, hreset, hevent, hhnd, hcls, htim, hpow, hinc, hcom]
  · simpa using hreg
  · simpa [State.trainOf] using h.slot n

/-- Steps 1 to 3 of R176, then the kind's own check: a telegram that fails one is refused with its reason, any other is
passed, with the kind's effect. -/
theorem State.passes.onPass {s : State} {f : Frame} {c : Sender} (h : s.passes f c) {mine : Nat → Bool}
    (hmine : mine f.kind = true) (check : State → Sender → Frame → Option Reason) (effect : State → Frame → State) :
    s.onPass mine check effect =
      (match ((s.opened .console).passCheck c f).or (check (s.opened .console) c f) with
       | some r => (s.opened .console).refuse c f r
       | none => effect ((s.opened .console).pass f) f).prune := by
  obtain ⟨hfront, hsender, hdst⟩ := h
  simp only [State.onPass, hfront, hsender, ne_eq, hdst, not_false_eq_true, hmine, and_self, if_true]
  rfl

theorem State.passCheck_refusesPass {s : State} {c : Sender} {f : Frame} {r : Reason} (h : s.passCheck c f = some r) :
    r.refusesPass := by
  unfold State.passCheck at h
  (repeat' split at h) <;> cases h <;> simp [Reason.refusesPass]

/-- A telegram whose own check answers with a reason of R180, and whose effect sets at most a console-permit flag, is passed
or refused. -/
theorem State.passes.passed_or_turnedAway {s : State} {f : Frame} {c : Sender} (h : s.passes f c) {mine : Nat → Bool}
    (hmine : mine f.kind = true) {check : State → Sender → Frame → Option Reason} {effect : State → Frame → State}
    (hcheck : ∀ u r, check u c f = some r → r.refusesPass) (heffect : ∀ u : State, u.marksAtMost (effect u f) f) :
    s.passedAlone (s.onPass mine check effect) f ∨
      ∃ r : Reason, r.refusesPass ∧ s.turnedAway (s.onPass mine check effect) f c r := by
  rw [h.onPass hmine]
  cases hr : ((s.opened .console).passCheck c f).or (check (s.opened .console) c f) with
  | none => exact .inl (State.passedAlone_prune (heffect _))
  | some r =>
    refine .inr ⟨r, ?_, h.turnedAway r⟩
    obtain hsteps | ⟨-, hown⟩ := Option.or_eq_some_iff.mp hr
    · exact State.passCheck_refusesPass hsteps
    · exact hcheck _ r hown

/-! ## The checks of the kinds that have their own (R177 to R179) -/

theorem State.permitCheck_refusesPass {s : State} {c : Sender} {f : Frame} {r : Reason}
    (h : s.permitCheck c f = some r) : r.refusesPass := by
  unfold State.permitCheck at h
  (repeat' split at h) <;> cases h <;> simp [Reason.refusesPass]

theorem State.energiseCheck_refusesPass {s : State} {c : Sender} {f : Frame} {r : Reason}
    (h : s.energiseCheck c f = some r) : r.refusesPass := by
  unfold State.energiseCheck at h
  dsimp only at h
  (repeat' split at h) <;> cases h <;> simp [Reason.refusesPass]

theorem State.paCheck_refusesPass {s : State} {e dst k : Nat} {r : Reason} (h : s.paCheck e dst k = some r) :
    r.refusesPass := by
  unfold State.paCheck at h
  dsimp only at h
  (repeat' split at h) <;> cases h <;> simp [Reason.refusesPass]

theorem State.zoneCheck_refusesPass {s : State} {c : Sender} {f : Frame} {r : Reason} (h : s.zoneCheck c f = some r) :
    r.refusesPass := by
  unfold State.zoneCheck at h
  split at h
  · cases h; simp [Reason.refusesPass]
  · exact State.paCheck_refusesPass h

/-- Settles O36: each kind's command takes the telegram as one event, with a check that answers only reasons of R180; the
DEPART PERMIT alone has an effect, the console-permit flag of R178. -/
theorem passThroughPassesOrIsRefused : Obligations.PassThroughPassesOrIsRefused := by
  intro s f c h
  dsimp only
  have hnoEffect : ∀ u : State, u.marksAtMost u f := fun u => .inl rfl
  split_ifs with hpermit henergise hframe habort
  · exact ⟨_, rfl, h.passed_or_turnedAway (by simp [hpermit])
    (fun _ _ => State.permitCheck_refusesPass) (fun u => u.markPermit_marksAtMost f)⟩
  · exact ⟨_, rfl, h.passed_or_turnedAway (by simp [henergise])
    (fun _ _ => State.energiseCheck_refusesPass) hnoEffect⟩
  · exact ⟨_, rfl, h.passed_or_turnedAway (by simp [hframe])
    (fun _ _ => State.zoneCheck_refusesPass) hnoEffect⟩
  · exact ⟨_, rfl, h.passed_or_turnedAway (by simp [habort])
    (fun _ _ => State.zoneCheck_refusesPass) hnoEffect⟩
  · exact ⟨_, rfl, h.passed_or_turnedAway (by simp [specialPass, hpermit, henergise, hframe, habort])
    (fun _ _ hnone => nomatch hnone) hnoEffect⟩

end Sys2Proof.Machine
end

