-- ==== Sys2Proof/Proofs/Status.lean ====
section
/-! SUPPORT. STATUS (R196): the 36 bytes of Table 12-5, the fifteen counters cleared, and the request taken as one event. -/

namespace Sys2Proof.Machine

/-! ## The result (Table 12-5) -/

/-- The operating state, the flags of the clock and the two links, the time and the slew; then the fifteen counters. -/
theorem State.statusBytes_eq (s : State) : s.statusBytes =
    u8 (if s.hnd.op = .running then 1 else 0) ++
    u8 (s.tim.clockSet.toNat + 2 * s.fieldPort.linkDown.toNat + 4 * s.consolePort.linkDown.toNat) ++
    u24 s.now ++ i8 s.tim.slew ++
    [s.fieldPort.crcErrors, s.fieldPort.framingErrors, s.fieldPort.inboundOverflows, s.fieldPort.outboundDiscards,
     s.fieldPort.linkDownEvents, s.consolePort.crcErrors, s.consolePort.framingErrors, s.consolePort.inboundOverflows,
     s.consolePort.outboundDiscards, s.consolePort.linkDownEvents, s.cls.unknownSource, s.cls.roleMismatch, s.inc.overflow,
     s.reg.outcomeLoss, s.com.zoneDrops].flatMap u16 := by
  have hflags : bits [s.tim.clockSet, s.fieldPort.linkDown, s.consolePort.linkDown] =
      s.tim.clockSet.toNat + 2 * s.fieldPort.linkDown.toNat + 4 * s.consolePort.linkDown.toNat := by
    simp only [bits]; omega
  simp [State.statusBytes, hflags]

theorem State.statusBytes_length (s : State) : s.statusBytes.length = 36 := rfl

/-- Taking the request changes none of what STATUS reports. -/
theorem State.statusBytes_opened (s : State) (p : Port) : (s.opened p).statusBytes = s.statusBytes := by
  cases p <;> simp [State.statusBytes]

/-! ## The counters cleared (R196) -/

@[simp] theorem State.clearCounters_keeps (s : State) :
    s.clearCounters.pending = s.pending ∧ s.clearCounters.resetHeld = s.resetHeld ∧ s.clearCounters.event = s.event ∧
    s.clearCounters.hnd = s.hnd ∧ s.clearCounters.tim = s.tim ∧ s.clearCounters.pow = s.pow :=
  ⟨rfl, rfl, rfl, rfl, rfl, rfl⟩

@[simp] theorem State.clearCounters_cls (s : State) :
    s.clearCounters.cls = { s.cls with unknownSource := 0, roleMismatch := 0 } := rfl
@[simp] theorem State.clearCounters_inc (s : State) : s.clearCounters.inc = { s.inc with overflow := 0 } := rfl
@[simp] theorem State.clearCounters_reg (s : State) : s.clearCounters.reg = { s.reg with outcomeLoss := 0 } := rfl
@[simp] theorem State.clearCounters_com (s : State) : s.clearCounters.com = { s.com with zoneDrops := 0 } := rfl
@[simp] theorem State.clearCounters_fieldPort (s : State) :
    s.clearCounters.fieldPort = s.fieldPort.clearCounters := rfl
@[simp] theorem State.clearCounters_consolePort (s : State) :
    s.clearCounters.consolePort = s.consolePort.clearCounters := rfl

/-! ## The request as one event -/

/-- A port that an event leaves alone before its end is kept, but for its room lists. -/
theorem State.portKept_prune {s u : State} {p : Port} (h : u.port p = s.port p) : s.portKept u.prune p := by
  simp only [State.portKept, State.prune_port, State.holds_prune, h]

/-- STATUS of a console with VIEW: the counters are cleared, and the bytes that stood before are the REPLY's result. -/
theorem exec_status_of_asks {s : State} {c : Sender} (h : s.asks 0xC0 c []) (hview : c.privs.has .view = true) :
    exec .status s =
      .next (State.answer c 0xC0 (accepted (s.opened .console).clearCounters s.statusBytes)).prune := by
  have hholds : c.holds (some .view) = true := hview
  show execStatus s = _
  rw [execStatus, h.accepted ownStatus (a := ()) rfl hholds rfl, ownStatus, State.statusBytes_opened]

/-- The event of STATUS sends its REPLY from a console port whose counters are cleared; nothing else of the port changes. -/
theorem State.asks.replied_status {s : State} {c : Sender} (h : s.asks 0xC0 c []) (result : List Byte) :
    State.replied { s with fieldPort := s.fieldPort.clearCounters, consolePort := s.consolePort.clearCounters }
      (State.answer c 0xC0 (Machine.accepted (s.opened .console).clearCounters result)).prune
      (c.reply 0xC0 .accepted result) := by
  obtain ⟨f, hfront, -⟩ := h
  obtain ⟨-, hhold, -⟩ := State.front_console hfront
  apply State.replied_answer
  · simp [Machine.accepted, hhold]
  · simp [Machine.accepted, PortState.clearCounters]

/-- Settles O40: every clause is read off the one event of the request, in which the owner clears the counters and the
handler sends the REPLY. -/
theorem statusReportsAndClears : Obligations.StatusReportsAndClears := by
  intro s c hasks hview
  refine ⟨_, exec_status_of_asks hasks hview, ?_, ?_, ?_, ?_, ?_, ?_, ?_, ?_, ?_, ?_, ?reply⟩
  case reply =>
    dsimp only
    rw [← s.statusBytes_eq]
    exact ⟨s.statusBytes_length, State.portKept_prune (by simp [accepted, PortState.clearCounters]), hasks.replied_status _⟩
  all_goals simp [accepted]

end Sys2Proof.Machine
end
